-- ==== Sys2Proof/Word.lean ====
section
/-! DEFINITION. The word types of the block: a byte, a 16-bit peripheral register, a 32-bit decode word, a packet. -/

namespace Sys2Proof

/-- `Byte` of rule R13: an 8-bit unsigned value. -/
abbrev Byte := BitVec 8

/-- A 16-bit peripheral register (rule R31); every register but DR has this width. -/
abbrev Reg := BitVec 16

/-- The 32-bit decode word of a step (rule R81). -/
abbrev Word := BitVec 32

/-- `Packet` of rule R13. The length `PACKET_LEN` is a parameter of the model (rule R8), so it is a
well-formedness condition (`Instr.wellFormed`, `State.Bounded`), not part of the type. -/
abbrev Packet := List Byte

end Sys2Proof
end

