-- ==== Sys2Proof/Syntax.lean ====
section
/-! DEFINITION. The steps of the four agents as syntax: one constructor per row of spec/opcode_table.json. -/

namespace Sys2Proof

/-- The stage tag of a decode word (rules R22, R83). -/
inductive StageTag where
  | waiting
  | receivedDataReady
  | receiving
  | transmitting
  deriving DecidableEq, Repr

/-- One constructor per row of the opcode map (rules R90 to R93).

A handler step carries what its word holds beside the fixed bits (rules R81, R86, R87): the stage tag where
the row admits several, the direction bit `SR2.TRA` where the row leaves it free, and the SR1 snapshot. -/
inductive Instr where
  /-- `EVT_ADDR_READ` (rule R104). -/
  | evtAddrRead (tag : StageTag) (snap : Reg)
  /-- `EVT_ADDR_WRITE` (rule R105). -/
  | evtAddrWrite (tag : StageTag) (snap : Reg)
  /-- `EVT_TX_BYTE` (rule R106). -/
  | evtTxByte (tra : Bool) (snap : Reg)
  /-- `EVT_TX_RESYNC` (rule R107). -/
  | evtTxResync (tra : Bool) (snap : Reg)
  /-- `EVT_RX_BYTE` (rule R108). -/
  | evtRxByte (tra : Bool) (snap : Reg)
  /-- `EVT_RX_STOP` (rule R109). -/
  | evtRxStop (tra : Bool) (snap : Reg)
  /-- `EVT_RX_IDLE` (rule R110). -/
  | evtRxIdle (tra : Bool) (snap : Reg)
  /-- `EVT_RESYNC` (rule R111). -/
  | evtResync (tag : StageTag) (tra : Bool) (snap : Reg)
  /-- `ERR_NACK_END` (rule R133). -/
  | errNackEnd (tra : Bool) (snap : Reg)
  /-- `ERR_RECOVER_TX` (rule R135). -/
  | errRecoverTx (tra : Bool) (snap : Reg)
  /-- `ERR_RECOVER_RX` (rule R136). -/
  | errRecoverRx (tra : Bool) (snap : Reg)
  /-- `ERR_RECOVER_IDLE` (rule R137). -/
  | errRecoverIdle (tag : StageTag) (tra : Bool) (snap : Reg)
  /-- `TK_INIT` (rule R152): ICTX and ADDR7. -/
  | tkInit (ictx : Bool) (addr7 : BitVec 7)
  /-- `TK_ENQUEUE` (rule R153): the packet stands outside the word (rule R87). -/
  | tkEnqueue (p : Packet)
  /-- `TK_POLL` (rule R154). -/
  | tkPoll
  /-- `TK_REGISTER` (rule R155). -/
  | tkRegister
  /-- `TK_TEARDOWN` (rule R156). -/
  | tkTeardown
  /-- `BUS_ADDR` (rule R177): RW, true when the host reads. -/
  | busAddr (rw : Bool)
  /-- `BUS_WRITE` (rule R178): DATA. -/
  | busWrite (data : Byte)
  /-- `BUS_READ` (rule R179): ACKB, true when the host acknowledges. -/
  | busRead (ack : Bool)
  /-- `BUS_STOP` (rule R180). -/
  | busStop
  /-- `BUS_FAULT` (rule R181): FLAGS, bit for bit as `SR1[15:8]`. -/
  | busFault (flags : Byte)
  deriving DecidableEq, Repr

/-- A step as a schedule writes it (rule R97): its word, the operand outside the word (read by `TK_ENQUEUE`
alone, rule R87), and the draw written in braces, if the schedule names one. -/
structure StepItem where
  word : Word
  operand : Packet := []
  draw : Option Bool := none
  deriving DecidableEq, Repr

end Sys2Proof
end

