-- ==== Sys2Proof/Config.lean ====
section
/-! DEFINITION. The parameters of rule R8 and 92_eei_decisions.md, their admitted relations (rule R9), and the
values the spec leaves open as uninterpreted constants. -/

namespace Sys2Proof

/-- `TX_SOURCE` (rule R8, decision D6, conflict C1). -/
inductive TxSource where
  | queueHeadOrDefault
  | alwaysDefault
  deriving DecidableEq, Repr

/-- `IRQ_ORDER` (rules R8, R215, decision D11). -/
inductive IrqOrder where
  | any
  | evFirst
  | erFirst
  deriving DecidableEq, Repr

/-- The parameters of rule R8. They are fixed for a run; `State.cfg` carries them because a step takes no other
argument. `SLAVE_ADDR` is the operand of `TK_INIT`, and the two draws are free values (`freeBit`). -/
structure Params where
  /-- `PACKET_LEN`: bytes per packet. -/
  packetLen : Nat
  /-- `RX_CAP`: capacity of the RX assembly buffer in bytes. -/
  rxCap : Nat
  /-- `TXQ_CAP`: capacity of the TX queue in packets. -/
  txqCap : Nat
  /-- `CFG_FREQ`: the value written to CR2.FREQ; no semantic effect (decision D19). -/
  cfgFreq : BitVec 6
  /-- `TX_SOURCE`. -/
  txSource : TxSource
  /-- `POLL_REGISTER_ATOMIC` (decision D13). -/
  pollRegisterAtomic : Bool
  /-- `IRQ_ORDER`. -/
  irqOrder : IrqOrder
  /-- `CURSOR_W`: width of the transmit cursor (decision D8). -/
  cursorW : Nat
  /-- `I2C_BASE` (rule R61, decision D5): the platform address of register offset 0. -/
  i2cBase : Nat
  deriving DecidableEq, Repr

/-- The defaults of rule R8. `CFG_FREQ` and `I2C_BASE` have none: 16 (the value of the spec's test vectors)
and 0 are this model's (DESIGN CHOICE, safe: no rule depends on either; notes/assumptions/1.md). -/
def Params.default : Params where
  packetLen := 17
  rxCap := 64
  txqCap := 16
  cfgFreq := 16#6
  txSource := .queueHeadOrDefault
  pollRegisterAtomic := false
  irqOrder := .any
  cursorW := 8
  i2cBase := 0

/-- The relations a model must hold between the parameters (rule R9). -/
def Params.admitted (c : Params) : Bool :=
  decide (c.packetLen ≤ c.rxCap) && decide (c.packetLen < 2 ^ c.cursorW) && decide (c.rxCap ≤ 255)
    && decide (1 ≤ c.txqCap)

/-- `DEFAULT_PACKET` (rule R13, decision D7): `PACKET_LEN` bytes, each 0x00. -/
def Params.defaultPacket (c : Params) : Packet := List.replicate c.packetLen 0#8

/-- A draw that no schedule names (rules R14, R179, R180; decision D24): TXE after a NACK, STOPF after a stop
that follows a NACK. No value of it can be proved (notes/assumptions/5.md). -/
opaque Config.freeBit : Nat → Bool

/-- A register value the spec leaves as 'any value': CCR, TRISE and FLTR after `TK_INIT` (rules R38, R152) and
every register after `TK_TEARDOWN` (rule R49). No value of it can be proved (notes/assumptions/6.md, 7.md). -/
opaque Config.freeReg : Nat → Reg

end Sys2Proof
end

