-- ==== Sys2Proof/WellFormed.lean ====
section
/-! DEFINITION. When an instruction is one the opcode map has: the fixed bits of its row (rules R90 to R93) and
the length of a packet operand (rule R13). -/

namespace Sys2Proof

/-- The two stages whose tags have `STAGE[1] = 0` (rule R83). -/
def StageTag.isIdle : StageTag → Bool
  | .waiting => true
  | .receivedDataReady => true
  | .receiving => false
  | .transmitting => false

/-- `i` has the bits its row fixes (the 'condition' columns of rules R90 and R91, the field limits of rules R92
and R93), and a packet operand has `PACKET_LEN` bytes. Bits of SR1: 1 ADDR, 4 STOPF, 6 RXNE, 7 TXE, 10 AF. -/
def Instr.wellFormed (packetLen : Nat) : Instr → Bool
  | .evtAddrRead _ e => e.getLsbD 1
  | .evtAddrWrite _ e => e.getLsbD 1
  | .evtTxByte _ e => !e.getLsbD 1 && e.getLsbD 7
  | .evtTxResync _ e => !e.getLsbD 1 && !e.getLsbD 7
  | .evtRxByte _ e => !e.getLsbD 1 && e.getLsbD 6
  | .evtRxStop _ e => !e.getLsbD 1 && !e.getLsbD 6 && e.getLsbD 4
  | .evtRxIdle _ e => !e.getLsbD 1 && !e.getLsbD 6 && !e.getLsbD 4
  | .evtResync tag _ e => tag.isIdle && !e.getLsbD 1
  | .errNackEnd _ e => e.getLsbD 10
  | .errRecoverTx _ e => !e.getLsbD 10
  | .errRecoverRx _ _ => true
  | .errRecoverIdle tag _ _ => tag.isIdle
  | .tkInit _ _ => true
  | .tkEnqueue p => decide (p.length = packetLen)
  | .tkPoll => true
  | .tkRegister => true
  | .tkTeardown => true
  | .busAddr _ => true
  | .busWrite _ => true
  | .busRead _ => true
  | .busStop => true
  | .busFault f => !f.getLsbD 5

end Sys2Proof
end

