-- ==== Sys2Proof/Decode.lean ====
section
/-! DEFINITION. The decode word (rules R81 to R96): its fields, the decoder, the encoder, and the opcode map as
match/mask rows. -/

namespace Sys2Proof

/-- The fields of a decode word, high to low (rule R81). -/
structure Fields where
  src : BitVec 2
  stage : BitVec 2
  op : BitVec 4
  res : BitVec 7
  b16 : BitVec 1
  low : Reg
  deriving DecidableEq, Repr

/-- The word a set of fields forms: `{SRC, STAGE, OP, RES, B16, LOW}` (rule R81). -/
def Fields.toWord (f : Fields) : Word := f.src ++ f.stage ++ f.op ++ f.res ++ f.b16 ++ f.low

/-- The fields of a word: SRC 31:30, STAGE 29:28, OP 27:24, RES 23:17, B16 16, LOW 15:0 (rule R81). -/
def Fields.ofWord (w : Word) : Fields where
  src := w.extractLsb' 30 2
  stage := w.extractLsb' 28 2
  op := w.extractLsb' 24 4
  res := w.extractLsb' 17 7
  b16 := w.extractLsb' 16 1
  low := w.extractLsb' 0 16

/-- The 2-bit tag of a stage (rules R22, R83). -/
def StageTag.bits : StageTag → BitVec 2
  | .waiting => 0b00#2
  | .receivedDataReady => 0b01#2
  | .receiving => 0b10#2
  | .transmitting => 0b11#2

/-- The stage a 2-bit tag names; all four values are used (rule R83). -/
def StageTag.ofBits (b : BitVec 2) : StageTag :=
  if b = 0b00#2 then .waiting
  else if b = 0b01#2 then .receivedDataReady
  else if b = 0b10#2 then .receiving
  else .transmitting

/-- Why a word is reserved (rule R94). Each of them is `RESERVED_ENCODING` (rule R95). -/
inductive Reject where
  /-- RES is not 0. -/
  | resNotZero
  /-- OP is not one of the agent's operations (for a handler word: OP is not 0). -/
  | opReserved
  /-- A task or bus word with STAGE not 00. -/
  | stageNotZero
  /-- A bit the operation does not use is set (B16, LOW; the reserved SR1 bit of `BUS_FAULT`). -/
  | unusedNotZero
  deriving DecidableEq, Repr

/-- The EV rows (rule R90), in the source's priority order (rule R103). -/
def decodeEv (tag : StageTag) (tra : Bool) (e : Reg) : Instr :=
  if e.getLsbD 1 then
    if tra then .evtAddrRead tag e else .evtAddrWrite tag e
  else
    match tag with
    | .transmitting => if e.getLsbD 7 then .evtTxByte tra e else .evtTxResync tra e
    | .receiving =>
      if e.getLsbD 6 then .evtRxByte tra e
      else if e.getLsbD 4 then .evtRxStop tra e
      else .evtRxIdle tra e
    | .waiting => .evtResync .waiting tra e
    | .receivedDataReady => .evtResync .receivedDataReady tra e

/-- The ER rows (rule R91). -/
def decodeEr (tag : StageTag) (tra : Bool) (e : Reg) : Instr :=
  match tag with
  | .transmitting => if e.getLsbD 10 then .errNackEnd tra e else .errRecoverTx tra e
  | .receiving => .errRecoverRx tra e
  | .waiting => .errRecoverIdle .waiting tra e
  | .receivedDataReady => .errRecoverIdle .receivedDataReady tra e

/-- The TK rows (rule R92). `operand` is the packet outside the word. -/
def decodeTk (op : BitVec 4) (b16 : Bool) (low : Reg) (operand : Packet) : Except Reject Instr :=
  if op = 0x0#4 then
    if low.extractLsb' 7 9 = 0#9 then .ok (.tkInit b16 (low.extractLsb' 0 7)) else .error .unusedNotZero
  else if op = 0x1#4 then
    if !b16 && low = 0#16 then .ok (.tkEnqueue operand) else .error .unusedNotZero
  else if op = 0x2#4 then
    if !b16 && low = 0#16 then .ok .tkPoll else .error .unusedNotZero
  else if op = 0x3#4 then
    if !b16 && low = 0#16 then .ok .tkRegister else .error .unusedNotZero
  else if op = 0x4#4 then
    if !b16 && low = 0#16 then .ok .tkTeardown else .error .unusedNotZero
  else .error .opReserved

/-- The BUS rows (rule R93). -/
def decodeBus (op : BitVec 4) (b16 : Bool) (low : Reg) : Except Reject Instr :=
  if op = 0x0#4 then
    if low = 0#16 then .ok (.busAddr b16) else .error .unusedNotZero
  else if op = 0x1#4 then
    if !b16 && low.extractLsb' 8 8 = 0#8 then .ok (.busWrite (low.extractLsb' 0 8)) else .error .unusedNotZero
  else if op = 0x2#4 then
    if low = 0#16 then .ok (.busRead b16) else .error .unusedNotZero
  else if op = 0x3#4 then
    if !b16 && low = 0#16 then .ok .busStop else .error .unusedNotZero
  else if op = 0x4#4 then
    if !b16 && low.extractLsb' 0 8 = 0#8 && !low.getLsbD 13 then .ok (.busFault (low.extractLsb' 8 8))
    else .error .unusedNotZero
  else .error .opReserved

/-- Decoding from the fields (rules R82 to R87, R89, R94). -/
def decodeFields (f : Fields) (operand : Packet) : Except Reject Instr :=
  if f.res ≠ 0#7 then .error .resNotZero
  else if f.src = 0b00#2 then
    if f.op = 0x0#4 then .ok (decodeEv (StageTag.ofBits f.stage) (f.b16.getLsbD 0) f.low) else .error .opReserved
  else if f.src = 0b01#2 then
    if f.op = 0x0#4 then .ok (decodeEr (StageTag.ofBits f.stage) (f.b16.getLsbD 0) f.low) else .error .opReserved
  else if f.stage ≠ 0b00#2 then .error .stageNotZero
  else if f.src = 0b10#2 then decodeTk f.op (f.b16.getLsbD 0) f.low operand
  else decodeBus f.op (f.b16.getLsbD 0) f.low

/-- The decoder, total on every word (rules R89, R95): the one row the word matches, or why it matches none. -/
def decode (w : Word) (operand : Packet) : Except Reject Instr := decodeFields (Fields.ofWord w) operand

/-- The fields of a handler word (rule R88): OP and RES are 0, B16 is `SR2.TRA`, LOW the SR1 snapshot. -/
def Fields.handler (src : BitVec 2) (tag : StageTag) (tra : Bool) (snap : Reg) : Fields where
  src := src
  stage := tag.bits
  op := 0#4
  res := 0#7
  b16 := BitVec.ofBool tra
  low := snap

/-- The fields of a task or bus word (rules R92, R93): STAGE and RES are 0. -/
def Fields.operation (src : BitVec 2) (op : BitVec 4) (b16 : Bool) (low : Reg) : Fields where
  src := src
  stage := 0#2
  op := op
  res := 0#7
  b16 := BitVec.ofBool b16
  low := low

/-- The fields of an instruction's word, from the encoding tables of rules R90 to R93. -/
def Instr.fields : Instr → Fields
  | .evtAddrRead tag e => .handler 0b00#2 tag true e
  | .evtAddrWrite tag e => .handler 0b00#2 tag false e
  | .evtTxByte tra e => .handler 0b00#2 .transmitting tra e
  | .evtTxResync tra e => .handler 0b00#2 .transmitting tra e
  | .evtRxByte tra e => .handler 0b00#2 .receiving tra e
  | .evtRxStop tra e => .handler 0b00#2 .receiving tra e
  | .evtRxIdle tra e => .handler 0b00#2 .receiving tra e
  | .evtResync tag tra e => .handler 0b00#2 tag tra e
  | .errNackEnd tra e => .handler 0b01#2 .transmitting tra e
  | .errRecoverTx tra e => .handler 0b01#2 .transmitting tra e
  | .errRecoverRx tra e => .handler 0b01#2 .receiving tra e
  | .errRecoverIdle tag tra e => .handler 0b01#2 tag tra e
  | .tkInit ictx a => .operation 0b10#2 0x0#4 ictx (a.setWidth 16)
  | .tkEnqueue _ => .operation 0b10#2 0x1#4 false 0#16
  | .tkPoll => .operation 0b10#2 0x2#4 false 0#16
  | .tkRegister => .operation 0b10#2 0x3#4 false 0#16
  | .tkTeardown => .operation 0b10#2 0x4#4 false 0#16
  | .busAddr rw => .operation 0b11#2 0x0#4 rw 0#16
  | .busWrite b => .operation 0b11#2 0x1#4 false (b.setWidth 16)
  | .busRead ack => .operation 0b11#2 0x2#4 ack 0#16
  | .busStop => .operation 0b11#2 0x3#4 false 0#16
  | .busFault fl => .operation 0b11#2 0x4#4 false (fl ++ 0#8)

/-- The operand an instruction has outside its word (rule R87). -/
def Instr.operand : Instr → Packet
  | .tkEnqueue p => p
  | _ => []

/-- The encoder: the 32-bit word of an instruction (rules R88, R90 to R93). -/
def encode (i : Instr) : Word := i.fields.toWord

/-- A row of the opcode map: the mask and the match of rules R90 to R93. -/
structure Row where
  mnemonic : String
  mask : Word
  pattern : Word
  deriving DecidableEq, Repr

/-- The opcode map of rules R90 to R93, row by row as the spec writes it. -/
def opcodeMap : List Row :=
  [ ⟨"EVT_ADDR_READ", 0xCFFF0002#32, 0x00010002#32⟩,
    ⟨"EVT_ADDR_WRITE", 0xCFFF0002#32, 0x00000002#32⟩,
    ⟨"EVT_TX_BYTE", 0xFFFE0082#32, 0x30000080#32⟩,
    ⟨"EVT_TX_RESYNC", 0xFFFE0082#32, 0x30000000#32⟩,
    ⟨"EVT_RX_BYTE", 0xFFFE0042#32, 0x20000040#32⟩,
    ⟨"EVT_RX_STOP", 0xFFFE0052#32, 0x20000010#32⟩,
    ⟨"EVT_RX_IDLE", 0xFFFE0052#32, 0x20000000#32⟩,
    ⟨"EVT_RESYNC", 0xEFFE0002#32, 0x00000000#32⟩ ] ++
  [ ⟨"ERR_NACK_END", 0xFFFE0400#32, 0x70000400#32⟩,
    ⟨"ERR_RECOVER_TX", 0xFFFE0400#32, 0x70000000#32⟩,
    ⟨"ERR_RECOVER_RX", 0xFFFE0000#32, 0x60000000#32⟩,
    ⟨"ERR_RECOVER_IDLE", 0xEFFE0000#32, 0x40000000#32⟩ ] ++
  [ ⟨"TK_INIT", 0xFFFEFF80#32, 0x80000000#32⟩,
    ⟨"TK_ENQUEUE", 0xFFFFFFFF#32, 0x81000000#32⟩,
    ⟨"TK_POLL", 0xFFFFFFFF#32, 0x82000000#32⟩,
    ⟨"TK_REGISTER", 0xFFFFFFFF#32, 0x83000000#32⟩,
    ⟨"TK_TEARDOWN", 0xFFFFFFFF#32, 0x84000000#32⟩ ] ++
  [ ⟨"BUS_ADDR", 0xFFFEFFFF#32, 0xC0000000#32⟩,
    ⟨"BUS_WRITE", 0xFFFFFF00#32, 0xC1000000#32⟩,
    ⟨"BUS_READ", 0xFFFEFFFF#32, 0xC2000000#32⟩,
    ⟨"BUS_STOP", 0xFFFFFFFF#32, 0xC3000000#32⟩,
    ⟨"BUS_FAULT", 0xFFFF20FF#32, 0xC4000000#32⟩ ]

/-- A row selects a word (rule R88): `(W AND mask) = match`. -/
def Row.selects (r : Row) (w : Word) : Bool := w &&& r.mask == r.pattern

/-- The row of an instruction's constructor, by its mnemonic. -/
def Instr.mnemonic : Instr → String
  | .evtAddrRead _ _ => "EVT_ADDR_READ"
  | .evtAddrWrite _ _ => "EVT_ADDR_WRITE"
  | .evtTxByte _ _ => "EVT_TX_BYTE"
  | .evtTxResync _ _ => "EVT_TX_RESYNC"
  | .evtRxByte _ _ => "EVT_RX_BYTE"
  | .evtRxStop _ _ => "EVT_RX_STOP"
  | .evtRxIdle _ _ => "EVT_RX_IDLE"
  | .evtResync _ _ _ => "EVT_RESYNC"
  | .errNackEnd _ _ => "ERR_NACK_END"
  | .errRecoverTx _ _ => "ERR_RECOVER_TX"
  | .errRecoverRx _ _ => "ERR_RECOVER_RX"
  | .errRecoverIdle _ _ _ => "ERR_RECOVER_IDLE"
  | .tkInit _ _ => "TK_INIT"
  | .tkEnqueue _ => "TK_ENQUEUE"
  | .tkPoll => "TK_POLL"
  | .tkRegister => "TK_REGISTER"
  | .tkTeardown => "TK_TEARDOWN"
  | .busAddr _ => "BUS_ADDR"
  | .busWrite _ => "BUS_WRITE"
  | .busRead _ => "BUS_READ"
  | .busStop => "BUS_STOP"
  | .busFault _ => "BUS_FAULT"

/-- A step item from a number whose low 32 bits are the word and whose next bytes are the operand, the first
`nbits` bits counting and every bit above them 0 (the numbering of spec/opcode_table.json). -/
def itemOfTableWord (packetLen nbits w : Nat) : StepItem where
  word := BitVec.ofNat 32 (w % 2 ^ nbits)
  operand := (List.range packetLen).map fun k => BitVec.ofNat 8 ((w % 2 ^ nbits) >>> (32 + 8 * k))

/-- The instruction the decoder reads from a table row's word, with an operand of zeros where the word holds
none. A packet operand has the default `PACKET_LEN` bytes. -/
def decodeTableWord (nbits w : Nat) : Option Instr :=
  let x := itemOfTableWord Params.default.packetLen nbits w
  (decode x.word x.operand).toOption

end Sys2Proof
end

