-- ==== Sys2Proof/Machine/State.lean ====
section
/-! DEFINITION. The state of the block (10_state.md): the protocol stage, the queues and the wake bridge, the
peripheral's registers, the enables, the bus agent's phase, the outputs and the sticky marks; beside them the
parameters and the run's inputs. Every field is plain data. -/

namespace Sys2Proof.Machine

/-- `stage` (rule R22): exactly one of four variants. -/
inductive Stage where
  /-- Idle; the initial state, re-entered after every completed or aborted transfer. -/
  | waiting
  /-- A complete inbound packet waits for the task (rule R26). -/
  | receivedDataReady (pkt : Packet)
  /-- Host writing; the bytes stored so far (rule R25). -/
  | receiving (buf : List Byte)
  /-- Host reading; the packet and the number of bytes put into DR (rule R24). The cursor is a `CURSOR_W`-bit
  saturating counter; `CURSOR_W` is a parameter, so it is a number bounded by an invariant. -/
  | transmitting (pkt : Packet) (cur : Nat)
  deriving DecidableEq, Repr

/-- `wake` (rule R28): the one-place wake slot. -/
inductive Wake where
  | empty
  | registered
  deriving DecidableEq, Repr

/-- `task` (rule R29): the receiving task's relation to `receive()`. -/
inductive TaskMode where
  | idle
  | polling
  | registering
  | suspended
  deriving DecidableEq, Repr

/-- `life` (rule R30): the driver's lifecycle. -/
inductive Life where
  | unconstructed
  | active
  | released
  deriving DecidableEq, Repr

/-- `bus_phase` (rule R42): the bus agent's view of the transfer in progress. -/
inductive BusPhase where
  | idle
  | rx
  | tx
  | txNacked
  deriving DecidableEq, Repr

/-- The peripheral registers of rule R31 and the two hidden bits of rule R41. -/
structure Regs where
  cr1 : Reg
  cr2 : Reg
  oar1 : Reg
  oar2 : Reg
  dr : Byte
  sr1 : Reg
  sr2 : Reg
  ccr : Reg
  trise : Reg
  fltr : Reg
  /-- An SR1 read has seen ADDR (rule R41). -/
  addrArmed : Bool
  /-- An SR1 read has seen STOPF (rule R41). -/
  stopfArmed : Bool
  deriving DecidableEq, Repr

/-- The diagnostic records (rule R208). -/
inductive DiagRecord where
  /-- `RX_OVERFLOW(b)`: the dropped byte. -/
  | rxOverflow (b : Byte)
  /-- `LEN_MISMATCH(n)`: the stored length. -/
  | lenMismatch (n : Nat)
  /-- `FAULT(f)`: the fault-flag byte `E[15:8]`. -/
  | fault (flags : Byte)
  deriving DecidableEq, Repr

/-- One entry of `enq_results` (rules R43, R153). -/
inductive EnqResult where
  | ok
  | rejected (p : Packet)
  deriving DecidableEq, Repr

/-- The four output records (rule R43). -/
structure Outputs where
  hostRx : List Byte
  delivered : List Packet
  enqResults : List EnqResult
  diag : List DiagRecord
  deriving DecidableEq, Repr

/-- The model faults of rule R205.

All four are raised by the task-port meanings (`execTkInit`, `execTkEnqueue`, `execTkPoll`, `execTkRegister`,
`execTkTeardown`) as the STICKY MARK `State.fault`, in a next state, because the spec gives that state; no
step of this model answers `Outcome.fault`. Safe: the machine stops where the spec stops it. -/
inductive Fault where
  /-- `TK_INIT` with ICTX = 1. Raised by `execTkInit`. Safe. -/
  | panicInitInIsr
  /-- `TK_INIT` while ACTIVE. Raised by `execTkInit`. Safe. -/
  | reinit
  /-- A TK step other than `TK_INIT` while UNCONSTRUCTED. Raised through `State.tkGate`. Safe. -/
  | notConstructed
  /-- A TK step while RELEASED. Raised by `execTkInit` and through `State.tkGate`. Safe. -/
  | useAfterRelease
  deriving DecidableEq, Repr

/-- The refusals of rule R95, held in the sticky mark `State.refused`. -/
inductive RefuseReason where
  /-- A word that matches no row (rule R94). -/
  | reservedEncoding
  /-- A register offset outside the map (rule R62). -/
  | unmapped
  /-- An access of another width or alignment than the register's (rule R63). -/
  | badWidth
  /-- A parameter outside rule R9's relations. -/
  | unadmittedParameter
  deriving DecidableEq, Repr

/-- The refusals of the model itself (the spec's own refusals are the mark `State.refused`). -/
inductive Refusal where
  /-- The instruction has no meaning yet. Raised by no arm of `exec`. Safe. -/
  | notModelled (mnemonic : String)
  /-- A `TK_ENQUEUE` whose operand is not a packet of `PACKET_LEN` bytes (rule R13): no instruction of the
  machine. Raised by `step`. Safe. -/
  | operandNotPacket
  deriving DecidableEq, Repr

/-- Who makes a call (rules R157, R158): the one receiving task, or another task of the application. -/
inductive Caller where
  | receiver
  | other
  deriving DecidableEq, Repr

/-- The application's calls (rule R157): `TK_INIT`, `TK_ENQUEUE`, the first `TK_POLL` of a `receive()`, and
`TK_TEARDOWN`. -/
inductive CallOp where
  | init (ictx : Bool) (addr7 : BitVec 7)
  | enqueue (p : Packet)
  | receive
  | teardown
  deriving DecidableEq, Repr

/-- One entry of the task program (rule R157). -/
structure Call where
  op : CallOp
  caller : Caller := .receiver
  deriving DecidableEq, Repr

/-- One choice of the run: which agent moves next (rules R21, R97). -/
inductive Choice where
  /-- `ev`: the EV line is served; the step's word is formed by rule R88. -/
  | ev
  /-- `er`: the ER line is served; the step's word is formed by rule R88. -/
  | er
  /-- A step as a schedule spells it (rule R97): a bus action of the host, a scheduler step, a call of the
  application (taken only if it is the task program's next call, rule R157), or any label, reserved ones among them
  (rule R94). -/
  | word (x : StepItem)
  /-- An enqueue issued by another task, outside the task program (rules R153, R157, decision D31). -/
  | otherEnqueue (p : Packet)
  deriving DecidableEq, Repr

/-- The inputs of the run, which the block does not compute. They are the model's own state
(notes/assumptions/2.md, 5.md). -/
structure RunInput where
  /-- The task program (rule R157): the application's remaining calls, in order. -/
  prog : List Call
  /-- The remaining choices of which agent moves next, first one first. -/
  sched : List Choice
  /-- The draw the schedule names for the step being taken (rule R97), if any. -/
  draw : Option Bool
  /-- How many free values the run has used; the next one is `Config.freeBit` or `Config.freeReg` of it. -/
  free : Nat
  deriving DecidableEq, Repr

/-- The state of the machine (10_state.md). -/
structure State where
  cfg : Params
  life : Life
  stage : Stage
  txq : List Packet
  wake : Wake
  task : TaskMode
  regs : Regs
  /-- `CLK_EN` (rule R39). -/
  clkEn : Bool
  /-- `EV_EN` (rule R40). -/
  evEn : Bool
  /-- `ER_EN` (rule R40). -/
  erEn : Bool
  busPhase : BusPhase
  out : Outputs
  /-- The sticky mark `fault` (rule R44). -/
  fault : Option Fault
  /-- The sticky mark `refused` (rule R44). -/
  refused : Option RefuseReason
  run : RunInput
  deriving DecidableEq, Repr

/-- The register values at power-on (rule R48). -/
def Regs.powerOn : Regs where
  cr1 := 0x0000#16
  cr2 := 0x0000#16
  oar1 := 0x0000#16
  oar2 := 0x0000#16
  dr := 0x00#8
  sr1 := 0x0000#16
  sr2 := 0x0000#16
  ccr := 0x0000#16
  trise := 0x0002#16
  fltr := 0x0000#16
  addrArmed := false
  stopfArmed := false

/-- Power-on (rules R48, R241). The run's inputs are empty: a program and a schedule are loaded from outside
(notes/assumptions/3.md). -/
def State.reset : State where
  cfg := Params.default
  life := .unconstructed
  stage := .waiting
  txq := []
  wake := .empty
  task := .idle
  regs := Regs.powerOn
  clkEn := false
  evEn := false
  erEn := false
  busPhase := .idle
  out := { hostRx := [], delivered := [], enqResults := [], diag := [] }
  fault := none
  refused := none
  run := { prog := [], sched := [], draw := none, free := 0 }

end Sys2Proof.Machine
end

