-- ==== Sys2Proof/Machine/Flags.lean ====
section
/-! DEFINITION. The bits of the peripheral registers (rules R32 to R36), the masks of their defined bits, and the
flag computations: setting one flag, the fault byte, the two interrupt lines (rules R202, R209, R210). -/

namespace Sys2Proof.Machine

/-- CR1 bit 0 (rule R32). -/
@[simp] abbrev Cr1.pe : Nat := 0
/-- CR1 bit 10 (rule R32). -/
@[simp] abbrev Cr1.ack : Nat := 10

/-- CR2 bit 8 (rule R33). -/
@[simp] abbrev Cr2.iterren : Nat := 8
/-- CR2 bit 9 (rule R33). -/
@[simp] abbrev Cr2.itevten : Nat := 9
/-- CR2 bit 10 (rule R33). -/
@[simp] abbrev Cr2.itbufen : Nat := 10

/-- OAR1 bit 15 (rule R34). -/
@[simp] abbrev Oar1.addmode : Nat := 15

/-- SR1 bit 0 (rule R35). -/
@[simp] abbrev Sr1.sb : Nat := 0
/-- SR1 bit 1 (rule R35). -/
@[simp] abbrev Sr1.addr : Nat := 1
/-- SR1 bit 2 (rule R35). -/
@[simp] abbrev Sr1.btf : Nat := 2
/-- SR1 bit 3 (rule R35). -/
@[simp] abbrev Sr1.add10 : Nat := 3
/-- SR1 bit 4 (rule R35). -/
@[simp] abbrev Sr1.stopf : Nat := 4
/-- SR1 bit 6 (rule R35). -/
@[simp] abbrev Sr1.rxne : Nat := 6
/-- SR1 bit 7 (rule R35). -/
@[simp] abbrev Sr1.txe : Nat := 7
/-- SR1 bit 10 (rule R35). -/
@[simp] abbrev Sr1.af : Nat := 10

/-- SR2 bit 1 (rule R36). -/
@[simp] abbrev Sr2.busy : Nat := 1
/-- SR2 bit 2 (rule R36). -/
@[simp] abbrev Sr2.tra : Nat := 2

/-- The defined bits of CR1: bits 2 and 14 are reserved (rules R32, R68). -/
def Cr1.defined : Reg := 0xBFFB#16
/-- The defined bits of CR2: bits 7:6 and 15:13 are reserved (rule R33). -/
def Cr2.defined : Reg := 0x1F3F#16
/-- The defined bits of OAR1: 0, 7:1, 9:8, 14 and 15 (rule R34). -/
def Oar1.defined : Reg := 0xC3FF#16
/-- The defined bits of OAR2. PRESUMED from the family (ENDUAL and ADD2[7:1]): the spec lists none
(notes/assumptions/8.md). -/
def Oar2.defined : Reg := 0x00FF#16
/-- The defined bits of SR1: bits 5 and 13 are reserved (rule R35). -/
def Sr1.defined : Reg := 0xDFDF#16
/-- The defined bits of SR2: bit 3 is reserved (rule R36). -/
def Sr2.defined : Reg := 0xFFF7#16
/-- The rc_w0 bits of SR1, the seven fault flags: {8, 9, 10, 11, 12, 14, 15} (rules R35, R69). -/
def Sr1.clearable : Reg := 0xDF00#16

/-- `v` with bit `i` set to `b` and every other bit unchanged. -/
def setFlag (v : Reg) (i : Nat) (b : Bool) : Reg :=
  if b then v ||| BitVec.twoPow 16 i else v &&& ~~~(BitVec.twoPow 16 i)

/-- The fault-flag byte `SR1[15:8]` of a value of SR1 (rule R202). -/
def faultByte (sr1 : Reg) : Byte := sr1.extractLsb' 8 8

/-- The source address bits `OAR1[7:1]`: the 7-bit own address (rules R34, R74). -/
def Regs.ownAddress (r : Regs) : BitVec 7 := r.oar1.extractLsb' 1 7

/-- `SR2.TRA` without a side effect (rules R11, R88). -/
def Regs.tra (r : Regs) : Bool := r.sr2.getLsbD Sr2.tra

/-- `CR1.ACK` without a side effect (rule R11). -/
def Regs.ack (r : Regs) : Bool := r.cr1.getLsbD Cr1.ack

/-- A flag of SR1 without a side effect (rule R11). -/
def Regs.flag (r : Regs) (i : Nat) : Bool := r.sr1.getLsbD i

/-- The event flags of the peripheral, gated by its own enables (rule R209). -/
def Regs.evPending (r : Regs) : Bool :=
  r.cr2.getLsbD Cr2.itevten &&
    (r.flag Sr1.sb || r.flag Sr1.addr || r.flag Sr1.add10 || r.flag Sr1.stopf || r.flag Sr1.btf
      || (r.cr2.getLsbD Cr2.itbufen && (r.flag Sr1.txe || r.flag Sr1.rxne)))

/-- The fault flags of the peripheral, gated by its own enable (rule R210). -/
def Regs.erPending (r : Regs) : Bool := r.cr2.getLsbD Cr2.iterren && faultByte r.sr1 != 0#8

/-- `EV_LINE` (rule R209). -/
def State.evLine (s : State) : Bool := s.clkEn && s.regs.evPending

/-- `ER_LINE` (rule R210). -/
def State.erLine (s : State) : Bool := s.clkEn && s.regs.erPending

/-- The 16-bit code of a diagnostic record, `{kind, value}` (rule R208, decision D16). -/
def DiagRecord.code : DiagRecord → BitVec 16
  | .rxOverflow b => 0x01#8 ++ b
  | .lenMismatch n => 0x02#8 ++ BitVec.ofNat 8 n
  | .fault f => 0x03#8 ++ f

/-- The value of `wake` as its one bit (rule R28). -/
def Wake.code : Wake → BitVec 1
  | .empty => 0#1
  | .registered => 1#1

/-- The value of `task` (rule R29). -/
def TaskMode.code : TaskMode → BitVec 2
  | .idle => 0#2
  | .polling => 1#2
  | .registering => 2#2
  | .suspended => 3#2

/-- The value of `life` (rule R30). -/
def Life.code : Life → BitVec 2
  | .unconstructed => 0#2
  | .active => 1#2
  | .released => 2#2

end Sys2Proof.Machine
end

