-- ==== Sys2Proof/Machine/Operands.lean ====
section
/-! DEFINITION. The operands of the steps: the stage tag and the word of a handler step (rule R88), packet bytes
and padding (rule R106), the packet of a finished buffer (rule R115), the queue's head (rule R104), and the
conditions under which each agent's step can be taken (rules R101, R131, R151, R176, R205, R215). -/

namespace Sys2Proof.Machine

/-- The tag of a stage (rule R22). -/
def Stage.tag : Stage → StageTag
  | .waiting => .waiting
  | .receivedDataReady _ => .receivedDataReady
  | .receiving _ => .receiving
  | .transmitting _ _ => .transmitting

/-- `sat_N(v)` (rule R10). -/
def sat (n v : Nat) : Nat := min v (2 ^ n - 1)

/-- The byte at cursor `cur`: a packet byte, or the padding 0x00 from `PACKET_LEN` on (rule R106). -/
def txByte (packetLen : Nat) (pkt : Packet) (cur : Nat) : Byte :=
  if cur < packetLen then pkt.getD cur 0x00#8 else 0x00#8

/-- The packet of a finished buffer (rule R115). -/
def packetOf (c : Params) (buf : List Byte) : Packet :=
  if buf.length = c.packetLen then buf else c.defaultPacket

/-- The diagnostic of a finished buffer: one `LEN_MISMATCH` unless its length is `PACKET_LEN` (rule R115). -/
def packetDiag (c : Params) (buf : List Byte) : List DiagRecord :=
  if buf.length = c.packetLen then [] else [.lenMismatch buf.length]

/-- The packet a read address match sends: the queue's head, or `DEFAULT_PACKET` (rule R104). -/
def State.nextTxPacket (s : State) : Packet :=
  match s.cfg.txSource, s.txq with
  | .queueHeadOrDefault, p :: _ => p
  | .queueHeadOrDefault, [] => s.cfg.defaultPacket
  | .alwaysDefault, _ => s.cfg.defaultPacket

/-- The queue a read address match leaves (rule R104). -/
def State.nextTxQueue (s : State) : List Packet :=
  match s.cfg.txSource with
  | .queueHeadOrDefault => s.txq.tail
  | .alwaysDefault => s.txq

/-- The address byte on the wire, `{SLAVE_ADDR[6:0], RW}` (rule R74). `BUS_ADDR` stands for it. -/
def addressByte (a : BitVec 7) (rw : Bool) : Byte := a ++ BitVec.ofBool rw

/-- A sticky mark is set: no step of any agent is enabled (rules R205, R206). -/
def State.marked (s : State) : Bool := s.fault.isSome || s.refused.isSome

/-- The EV step is enabled (rules R101, R215). -/
def State.evEnabled (s : State) : Bool :=
  !s.marked && s.life == .active && s.clkEn && s.evEn && s.evLine
    && !(s.cfg.irqOrder == .erFirst && s.erLine)

/-- The ER step is enabled (rules R131, R215). -/
def State.erEnabled (s : State) : Bool :=
  !s.marked && s.life == .active && s.clkEn && s.erEn && s.erLine
    && !(s.cfg.irqOrder == .evFirst && s.evLine)

/-- A BUS step can be taken, as far as the common condition goes (rule R176). -/
def State.busEnabled (s : State) : Bool :=
  !s.marked && s.life == .active && s.clkEn && s.regs.cr1.getLsbD Cr1.pe

/-- The handler word that rule R88 forms in `s` has this stage tag, direction bit and snapshot. -/
def State.forms (s : State) (tag : StageTag) (tra : Bool) (snap : Reg) : Bool :=
  s.stage.tag == tag && s.regs.tra == tra && s.regs.sr1 == snap

/-- The word of a handler step in `s` (rule R88): `{SRC, tag(stage), 0000, 0000000, SR2.TRA, E}`. -/
def State.handlerWord (src : BitVec 2) (s : State) : Word :=
  (Fields.handler src s.stage.tag s.regs.tra s.regs.sr1).toWord

/-- `BUS_ADDR` can be taken (rules R176, R177). -/
def State.busAddrEnabled (s : State) : Bool := s.busEnabled && s.regs.ack && !s.regs.flag Sr1.addr

/-- `BUS_WRITE` can be taken (rules R176, R178). -/
def State.busWriteEnabled (s : State) : Bool :=
  s.busEnabled && s.busPhase == .rx && !s.regs.flag Sr1.addr && !s.regs.flag Sr1.rxne && s.regs.ack

/-- `BUS_READ` can be taken (rules R176, R179). -/
def State.busReadEnabled (s : State) : Bool :=
  s.busEnabled && s.busPhase == .tx && !s.regs.flag Sr1.addr && !s.regs.flag Sr1.txe

/-- `BUS_STOP` can be taken (rules R176, R180). -/
def State.busStopEnabled (s : State) : Bool :=
  s.busEnabled && s.busPhase != .idle && !s.regs.flag Sr1.addr

/-- `TK_POLL` can be taken while ACTIVE (rule R154). -/
def State.pollEnabled (s : State) : Bool := s.task == .idle || s.task == .polling

/-- `TK_REGISTER` can be taken while ACTIVE (rule R155). -/
def State.registerEnabled (s : State) : Bool := s.task == .registering

end Sys2Proof.Machine
end

