-- ==== Sys2Proof/Machine/Ops.lean ====
section
/-! DEFINITION. The shared operations: the register access primitives with their side effects (20_memory.md), the
register space by offset (rules R12, R62, R63), the sticky marks (rules R205, R206), the entry of a handler
(rule R217), the procedures of the handlers (rules R112 to R114, R134) and the free values. -/

namespace Sys2Proof.Machine

/-! ## Access primitives on the registers -/

/-- `ReadSR1()` (rule R64): the value and the registers after it. It arms the clear sequences and changes no flag. -/
def Regs.readSR1 (r : Regs) : Reg × Regs :=
  (r.sr1, { r with addrArmed := r.flag Sr1.addr, stopfArmed := r.flag Sr1.stopf })

/-- `ReadSR2()` (rule R65): it clears ADDR if an SR1 read armed it. -/
def Regs.readSR2 (r : Regs) : Reg × Regs :=
  (r.sr2, if r.addrArmed then { r with sr1 := setFlag r.sr1 Sr1.addr false, addrArmed := false } else r)

/-- `ReadDR()` (rule R66): RXNE and BTF become 0. -/
def Regs.readDR (r : Regs) : Byte × Regs :=
  (r.dr, { r with sr1 := setFlag (setFlag r.sr1 Sr1.rxne false) Sr1.btf false })

/-- `WriteDR(b)` (rule R67): TXE and BTF become 0. -/
def Regs.writeDR (r : Regs) (b : Byte) : Regs :=
  { r with dr := b, sr1 := setFlag (setFlag r.sr1 Sr1.txe false) Sr1.btf false }

/-- `WriteCR1(v)` (rule R68): the defined bits are stored, and STOPF is cleared if an SR1 read armed it. -/
def Regs.writeCR1 (r : Regs) (v : Reg) : Regs :=
  if r.stopfArmed then
    { r with cr1 := v &&& Cr1.defined, sr1 := setFlag r.sr1 Sr1.stopf false, stopfArmed := false }
  else { r with cr1 := v &&& Cr1.defined }

/-- `SetAck()` (rule R68). -/
def Regs.setAck (r : Regs) : Regs := r.writeCR1 (r.cr1 ||| 0x0400#16)

/-- `ClearAck()` (rule R68). -/
def Regs.clearAck (r : Regs) : Regs := r.writeCR1 (r.cr1 &&& ~~~0x0400#16)

/-- `TouchCR1()` (rule R68). -/
def Regs.touchCR1 (r : Regs) : Regs := r.writeCR1 r.cr1

/-- `WriteSR1(v)` (rule R69): each rc_w0 bit written 0 becomes 0; every other bit is unchanged. -/
def Regs.writeSR1 (r : Regs) (v : Reg) : Regs := { r with sr1 := r.sr1 &&& (v ||| ~~~Sr1.clearable) }

/-- `WriteCR2(v)` (rule R70). -/
def Regs.writeCR2 (r : Regs) (v : Reg) : Regs := { r with cr2 := v &&& Cr2.defined }

/-- `WriteOAR1(v)` (rule R70). -/
def Regs.writeOAR1 (r : Regs) (v : Reg) : Regs := { r with oar1 := v &&& Oar1.defined }

/-- `WriteOAR2(v)` (rule R70). -/
def Regs.writeOAR2 (r : Regs) (v : Reg) : Regs := { r with oar2 := v &&& Oar2.defined }

/-! ## Free values -/

/-- CCR, TRISE and FLTR at 'any value' (rules R38, R152): the free values `n`, `n + 1` and `n + 2`. -/
def Regs.anyClock (r : Regs) (n : Nat) : Regs :=
  { r with ccr := Config.freeReg n, trise := Config.freeReg (n + 1), fltr := Config.freeReg (n + 2) }

/-- Every register at 'any value' (rule R49): the free values from `n` on, ten of them. A reserved bit still
reads 0 (rule R31), so each value is cut to its register's defined bits. The hidden bits are no registers. -/
def Regs.anyValue (r : Regs) (n : Nat) : Regs :=
  { r with
    cr1 := Config.freeReg n &&& Cr1.defined
    cr2 := Config.freeReg (n + 1) &&& Cr2.defined
    oar1 := Config.freeReg (n + 2) &&& Oar1.defined
    oar2 := Config.freeReg (n + 3) &&& Oar2.defined
    dr := (Config.freeReg (n + 4)).setWidth 8
    sr1 := Config.freeReg (n + 5) &&& Sr1.defined
    sr2 := Config.freeReg (n + 6) &&& Sr2.defined
    ccr := Config.freeReg (n + 7)
    trise := Config.freeReg (n + 8)
    fltr := Config.freeReg (n + 9) }

/-- The next draw (rule R14): the one the schedule names (rule R97), else a free value. -/
def State.drawn (s : State) : Bool := s.run.draw.getD (Config.freeBit s.run.free)

/-- The draw is used up: a named one is forgotten, and the next free value is a fresh one. -/
def State.afterDraw (s : State) : State :=
  { s with run := { s.run with draw := none, free := s.run.free + 1 } }

/-! ## Marks and outputs -/

/-- `raise Fault(reason)` (rules R12, R205, R207): the sticky mark, and no other change. This is the one
operation by which a step takes an exceptional event; there is no handler and no return (rules R205, R220). -/
def State.raise (s : State) (f : Fault) : State := { s with fault := some f }

/-- `refuse(reason)` (rules R95, R206): the sticky mark, and no other change. A refusal that stands already keeps its
reason (rule R44; notes/assumptions/15.md). -/
def State.refuse (s : State) (x : RefuseReason) : State := { s with refused := some (s.refused.getD x) }

/-- `diag <- diag ++ ds` (rule R208). -/
def State.emit (s : State) (ds : List DiagRecord) : State :=
  { s with out := { s.out with diag := s.out.diag ++ ds } }

/-! ## Taking a step -/

/-- A step with enabling condition `enabled` and body `body` (rule R14). A disabled step is not taken, and that is
no fault (rules R82, R176): the state stays as it is. -/
def State.attempt (s : State) (enabled : Bool) (body : State → State) : Host.Outcome State Fault Refusal :=
  .next (if enabled then body s else s)

/-- The lifecycle gate of every TK step but `TK_INIT` (rule R151); a marked state takes no step (rule R205). -/
def State.tkGate (s : State) (body : State → State) : Host.Outcome State Fault Refusal :=
  .next
    (if s.marked then s
     else
       match s.life with
       | .unconstructed => s.raise .notConstructed
       | .released => s.raise .useAfterRelease
       | .active => body s)

/-- The entry of a handler step (rules R102, R132, R217): the snapshot read, which arms the clear sequences. SR1 is
the cause and nothing is saved. The return (rule R218) restores nothing: the step ends with its arm. -/
def State.enterHandler (s : State) : State := { s with regs := s.regs.readSR1.2 }

/-! ## Procedures of the handlers -/

/-- `Resync(E)` on the registers (rule R112): the stop is cleared first, then a byte is drained. -/
def Regs.resync (r : Regs) (e : Reg) : Regs :=
  let r1 := if e.getLsbD Sr1.stopf then r.touchCR1 else r
  if e.getLsbD Sr1.rxne then r1.readDR.2 else r1

/-- `ClearStop()` (rule R113): the entry snapshot was the status read; this is the write of CR1. -/
def Regs.clearStop (r : Regs) : Regs := r.touchCR1

/-- `SignalWake()` (rule R114). -/
def State.signalWake (s : State) : State :=
  match s.wake with
  | .registered => { s with wake := .empty, task := .polling }
  | .empty => s

/-- The re-check of `Recover(E)` (rule R134): SR1 is read again, and ADDR, STOPF and RXNE are cleared, in this order,
where that read finds them. -/
def Regs.recheck (r : Regs) : Regs :=
  let e2 := r.readSR1.1
  let r1 := r.readSR1.2
  let r2 := if e2.getLsbD Sr1.addr then r1.readSR2.2 else r1
  let r3 := if e2.getLsbD Sr1.stopf then r2.touchCR1 else r2
  if e2.getLsbD Sr1.rxne then r3.readDR.2 else r3

/-- The registers through `Recover(E)` (rule R134), in its order: re-enable ACK, clear the status register, re-check. -/
def Regs.recover (r : Regs) : Regs := ((r.setAck).writeSR1 0x0000#16).recheck

/-- `Recover(E)` (rule R134): one `FAULT` record with every fault flag of the snapshot, the registers recovered,
and `Waiting` whatever the stage was. -/
def State.recover (s : State) (e : Reg) : State :=
  let s1 := s.emit [.fault (faultByte e)]
  { s1 with regs := s1.regs.recover, stage := .waiting }

/-! ## The register space by offset -/

/-- The ten registers of the register space (rule R62). -/
inductive RegName where
  | cr1
  | cr2
  | oar1
  | oar2
  | dr
  | sr1
  | sr2
  | ccr
  | trise
  | fltr
  deriving DecidableEq, Repr

/-- The register whose 32-bit slot holds byte offset `off` (rule R62). -/
def RegName.ofSlot (off : Nat) : Option RegName :=
  match off / 4 with
  | 0 => some .cr1
  | 1 => some .cr2
  | 2 => some .oar1
  | 3 => some .oar2
  | 4 => some .dr
  | 5 => some .sr1
  | 6 => some .sr2
  | 7 => some .ccr
  | 8 => some .trise
  | 9 => some .fltr
  | _ => none

/-- The width of a register in bytes (rules R31, R63). -/
def RegName.bytes : RegName → Nat
  | .dr => 1
  | _ => 2

/-- What an access of `n` bytes at offset `off` reaches: a register, or the reason it is refused (rules R62, R63).
Where both reasons apply, the first byte decides: outside every register it is `UNMAPPED`, else `BAD_WIDTH`
(DEDUCED, safe: both refuse; notes/assumptions/10.md). -/
def accessTarget (off n : Nat) : Except RefuseReason RegName :=
  match RegName.ofSlot off with
  | none => .error .unmapped
  | some x =>
    if x.bytes ≤ off % 4 then .error .unmapped
    else if off % 4 = 0 ∧ n = x.bytes then .ok x
    else .error .badWidth

/-- A read of a register by name: the named primitive, or a plain read (rules R64 to R66, R70). -/
def Regs.read (r : Regs) : RegName → Reg × Regs
  | .cr1 => (r.cr1, r)
  | .cr2 => (r.cr2, r)
  | .oar1 => (r.oar1, r)
  | .oar2 => (r.oar2, r)
  | .dr => (r.readDR.1.setWidth 16, r.readDR.2)
  | .sr1 => r.readSR1
  | .sr2 => r.readSR2
  | .ccr => (r.ccr, r)
  | .trise => (r.trise, r)
  | .fltr => (r.fltr, r)

/-- A write of a register by name (rules R67 to R70). A write of SR2 is ignored. CCR, TRISE and FLTR have no
primitive: the value is stored whole (DESIGN CHOICE, unsafe; notes/assumptions/8.md). -/
def Regs.write (r : Regs) (v : Reg) : RegName → Regs
  | .cr1 => r.writeCR1 v
  | .cr2 => r.writeCR2 v
  | .oar1 => r.writeOAR1 v
  | .oar2 => r.writeOAR2 v
  | .dr => r.writeDR (v.setWidth 8)
  | .sr1 => r.writeSR1 v
  | .sr2 => r
  | .ccr => { r with ccr := v }
  | .trise => { r with trise := v }
  | .fltr => { r with fltr := v }

/-- `MemRead(off, n)` (rule R12): the value and the state after it, or the sticky refusal. While CLK_EN = 0 the spec
gives no result, since no step reads there (rules R49, R227): the access is performed all the same (DESIGN CHOICE,
unsafe; notes/assumptions/28.md). In a state with a mark it gives none either, since no step is enabled there (rules
R205, R206): the access is performed all the same, and a refusal that stands keeps its reason (DESIGN CHOICE, unsafe;
notes/assumptions/30.md). -/
def State.memRead (s : State) (off n : Nat) : Option Reg × State :=
  match accessTarget off n with
  | .error x => (none, s.refuse x)
  | .ok x => (some (s.regs.read x).1, { s with regs := (s.regs.read x).2 })

/-- `MemWrite(off, n, v)` (rule R12). While CLK_EN = 0, and in a state with a mark, the access is performed all the same,
as for `State.memRead` (DESIGN CHOICE, unsafe; notes/assumptions/28.md, 30.md). -/
def State.memWrite (s : State) (off n : Nat) (v : Reg) : State :=
  match accessTarget off n with
  | .error x => s.refuse x
  | .ok x => { s with regs := s.regs.write v x }

/-- A read at a platform address (rule R61): offsets count from `I2C_BASE`; below it nothing is mapped. -/
def State.platformRead (s : State) (a n : Nat) : Option Reg × State :=
  if a < s.cfg.i2cBase then (none, s.refuse .unmapped) else s.memRead (a - s.cfg.i2cBase) n

/-- A write at a platform address (rule R61). -/
def State.platformWrite (s : State) (a n : Nat) (v : Reg) : State :=
  if a < s.cfg.i2cBase then s.refuse .unmapped else s.memWrite (a - s.cfg.i2cBase) n v

end Sys2Proof.Machine
end

