-- ==== Sys2Proof/Machine/BusAgent.lean ====
section
/-! DEFINITION. The bus agent (43_bus_agent.md): one body and one meaning per BUS row. It reads and writes the
peripheral's registers, `bus_phase` and `host_rx` alone. -/

namespace Sys2Proof.Machine

/-- The body of `BUS_ADDR` (rule R177). TRA takes RW, so a repeated start for a write clears it (rules R36, R177),
although rule R182 says that the bus clears TRA only at a stop (DESIGN CHOICE between the rules, unsafe;
notes/assumptions/27.md). -/
def State.busAddr (rw : Bool) (s : State) : State :=
  { s with
    regs := { s.regs with
      sr1 := setFlag (setFlag s.regs.sr1 Sr1.addr true) Sr1.txe rw
      sr2 := setFlag (setFlag s.regs.sr2 Sr2.busy true) Sr2.tra rw }
    busPhase := if rw then .tx else .rx }

/-- `BUS_ADDR` (rule R177). -/
def execBusAddr (rw : Bool) (s : State) : Host.Outcome State Fault Refusal :=
  s.attempt s.busAddrEnabled (State.busAddr rw)

/-- The body of `BUS_WRITE` (rule R178). -/
def State.busWrite (b : Byte) (s : State) : State :=
  { s with regs := { s.regs with dr := b, sr1 := setFlag s.regs.sr1 Sr1.rxne true } }

/-- `BUS_WRITE` (rule R178). -/
def execBusWrite (b : Byte) (s : State) : Host.Outcome State Fault Refusal :=
  s.attempt s.busWriteEnabled (State.busWrite b)

/-- The body of `BUS_READ` with acknowledge (rule R179). -/
def State.busReadAck (s : State) : State :=
  { s with
    out := { s.out with hostRx := s.out.hostRx ++ [s.regs.dr] }
    regs := { s.regs with sr1 := setFlag s.regs.sr1 Sr1.txe true } }

/-- The body of `BUS_READ` with no-acknowledge (rule R179): AF is set and TXE is the draw `TXE_AFTER_NACK`. -/
def State.busReadNack (s : State) : State :=
  { s.afterDraw with
    out := { s.out with hostRx := s.out.hostRx ++ [s.regs.dr] }
    regs := { s.regs with sr1 := setFlag (setFlag s.regs.sr1 Sr1.af true) Sr1.txe s.drawn }
    busPhase := .txNacked }

/-- `BUS_READ` (rule R179). -/
def execBusRead (ack : Bool) (s : State) : Host.Outcome State Fault Refusal :=
  s.attempt s.busReadEnabled (if ack then State.busReadAck else State.busReadNack)

/-- What a stop leaves beside STOPF: TXE, TRA and BUSY are 0 and the phase is IDLE (rule R180). -/
def State.busStopWith (stopf : Bool) (s : State) : State :=
  { s with
    regs := { s.regs with
      sr1 := setFlag (setFlag s.regs.sr1 Sr1.stopf stopf) Sr1.txe false
      sr2 := setFlag (setFlag s.regs.sr2 Sr2.tra false) Sr2.busy false }
    busPhase := .idle }

/-- The body of `BUS_STOP` (rule R180). After a NACK the draw `STOPF_AFTER_NACK` decides whether the stop sets
STOPF; a STOPF that was 1 stays 1 (DEDUCED from the rule's corner case and rule R182, safe;
notes/assumptions/9.md). -/
def State.busStop (s : State) : State :=
  if s.busPhase = .txNacked then s.afterDraw.busStopWith (s.regs.flag Sr1.stopf || s.drawn)
  else s.busStopWith true

/-- `BUS_STOP` (rule R180). -/
def execBusStop (s : State) : Host.Outcome State Fault Refusal :=
  s.attempt s.busStopEnabled State.busStop

/-- The body of `BUS_FAULT` (rule R181): each named fault flag becomes 1. The reserved bit 13 is never set (rule
R31), so bit 5 of FLAGS, which the encoding keeps 0, is cut. -/
def State.busFault (flags : Byte) (s : State) : State :=
  { s with regs := { s.regs with sr1 := s.regs.sr1 ||| ((flags &&& 0xDF#8) ++ 0x00#8) } }

/-- `BUS_FAULT` (rule R181). -/
def execBusFault (flags : Byte) (s : State) : Host.Outcome State Fault Refusal :=
  s.attempt s.busEnabled (State.busFault flags)

end Sys2Proof.Machine
end

