-- ==== Sys2Proof/Machine/ErrorHandler.lean ====
section
/-! DEFINITION. The error handler (41_error_handler.md): one meaning per ER row. A meaning runs its arm when the
ER step is enabled (rule R131) and the word rule R88 forms in the state is this instruction's (rule R132). -/

namespace Sys2Proof.Machine

/-- The arm of `ERR_NACK_END` (rule R133): AF alone is cleared, and nothing is logged. -/
def State.armNackEnd (s : State) : State :=
  let s1 := s.enterHandler
  { s1 with regs := s1.regs.writeSR1 0xFBFF#16, stage := .waiting }

/-- `ERR_NACK_END` (rule R133). -/
def execErrNackEnd (tra : Bool) (snap : Reg) (s : State) : Host.Outcome State Fault Refusal :=
  s.attempt (s.erEnabled && s.forms .transmitting tra snap && snap.getLsbD Sr1.af) State.armNackEnd

/-- The arm of the three recoveries (rules R134 to R137). -/
def State.armRecover (snap : Reg) (s : State) : State := s.enterHandler.recover snap

/-- `ERR_RECOVER_TX` (rule R135). -/
def execErrRecoverTx (tra : Bool) (snap : Reg) (s : State) : Host.Outcome State Fault Refusal :=
  s.attempt (s.erEnabled && s.forms .transmitting tra snap && !snap.getLsbD Sr1.af) (State.armRecover snap)

/-- `ERR_RECOVER_RX` (rule R136). -/
def execErrRecoverRx (tra : Bool) (snap : Reg) (s : State) : Host.Outcome State Fault Refusal :=
  s.attempt (s.erEnabled && s.forms .receiving tra snap) (State.armRecover snap)

/-- `ERR_RECOVER_IDLE` (rule R137), in `Waiting` and `ReceivedDataReady`. -/
def execErrRecoverIdle (tag : StageTag) (tra : Bool) (snap : Reg) (s : State) :
    Host.Outcome State Fault Refusal :=
  s.attempt (s.erEnabled && s.forms tag tra snap && tag.isIdle) (State.armRecover snap)

end Sys2Proof.Machine
end

