-- ==== Sys2Proof/Machine/EventHandler.lean ====
section
/-! DEFINITION. The event handler (40_event_handler.md): one arm and one meaning per EV row.

A meaning runs its arm when the EV step is enabled (rule R101) and the word rule R88 forms in the state is this
instruction's word, selected by this row (rule R102); otherwise the step is not there to be taken (rule R82). -/

namespace Sys2Proof.Machine

/-- The arm of `EVT_ADDR_READ` (rule R104). -/
def State.armAddrRead (s : State) : State :=
  let s1 := s.enterHandler
  { s1 with regs := s1.regs.readSR2.2, txq := s1.nextTxQueue, stage := .transmitting s1.nextTxPacket 0 }

/-- `EVT_ADDR_READ` (rule R104). -/
def execEvtAddrRead (tag : StageTag) (snap : Reg) (s : State) : Host.Outcome State Fault Refusal :=
  s.attempt (s.evEnabled && s.forms tag true snap && snap.getLsbD Sr1.addr) State.armAddrRead

/-- The arm of `EVT_ADDR_WRITE` (rule R105). -/
def State.armAddrWrite (s : State) : State :=
  let s1 := s.enterHandler
  { s1 with regs := s1.regs.readSR2.2, stage := .receiving [] }

/-- `EVT_ADDR_WRITE` (rule R105). -/
def execEvtAddrWrite (tag : StageTag) (snap : Reg) (s : State) : Host.Outcome State Fault Refusal :=
  s.attempt (s.evEnabled && s.forms tag false snap && snap.getLsbD Sr1.addr) State.armAddrWrite

/-- The arm of `EVT_TX_BYTE` (rule R106). -/
def State.armTxByte (s : State) : State :=
  let s1 := s.enterHandler
  match s1.stage with
  | .transmitting pkt cur =>
    { s1 with
      regs := s1.regs.writeDR (txByte s1.cfg.packetLen pkt cur)
      stage := .transmitting pkt (sat s1.cfg.cursorW (cur + 1)) }
  | .waiting => s1
  | .receivedDataReady _ => s1
  | .receiving _ => s1

/-- `EVT_TX_BYTE` (rule R106). -/
def execEvtTxByte (tra : Bool) (snap : Reg) (s : State) : Host.Outcome State Fault Refusal :=
  s.attempt
    (s.evEnabled && s.forms .transmitting tra snap && !snap.getLsbD Sr1.addr && snap.getLsbD Sr1.txe)
    State.armTxByte

/-- The arm of the two resynchronisations (rules R107, R111): no stage transition. -/
def State.armResync (snap : Reg) (s : State) : State :=
  let s1 := s.enterHandler
  { s1 with regs := s1.regs.resync snap }

/-- `EVT_TX_RESYNC` (rule R107). -/
def execEvtTxResync (tra : Bool) (snap : Reg) (s : State) : Host.Outcome State Fault Refusal :=
  s.attempt
    (s.evEnabled && s.forms .transmitting tra snap && !snap.getLsbD Sr1.addr && !snap.getLsbD Sr1.txe)
    (State.armResync snap)

/-- The arm of `EVT_RX_BYTE` (rule R108): the byte is stored, or dropped with a diagnostic at capacity. -/
def State.armRxByte (s : State) : State :=
  let s1 := s.enterHandler
  let b := s1.regs.readDR.1
  let s2 : State := { s1 with regs := s1.regs.readDR.2 }
  match s2.stage with
  | .receiving buf =>
    if buf.length < s2.cfg.rxCap then { s2 with stage := .receiving (buf ++ [b]) } else s2.emit [.rxOverflow b]
  | .waiting => s2
  | .receivedDataReady _ => s2
  | .transmitting _ _ => s2

/-- `EVT_RX_BYTE` (rule R108). -/
def execEvtRxByte (tra : Bool) (snap : Reg) (s : State) : Host.Outcome State Fault Refusal :=
  s.attempt
    (s.evEnabled && s.forms .receiving tra snap && !snap.getLsbD Sr1.addr && snap.getLsbD Sr1.rxne)
    State.armRxByte

/-- The arm of `EVT_RX_STOP` (rule R109): the stop is cleared, ACK withheld, the packet made, the waiter woken. -/
def State.armRxStop (s : State) : State :=
  let s1 := s.enterHandler
  let s2 : State := { s1 with regs := s1.regs.clearStop.clearAck }
  match s2.stage with
  | .receiving buf =>
    let s3 := s2.emit (packetDiag s2.cfg buf)
    let s4 : State := { s3 with stage := .receivedDataReady (packetOf s2.cfg buf) }
    s4.signalWake
  | .waiting => s2
  | .receivedDataReady _ => s2
  | .transmitting _ _ => s2

/-- `EVT_RX_STOP` (rule R109). -/
def execEvtRxStop (tra : Bool) (snap : Reg) (s : State) : Host.Outcome State Fault Refusal :=
  s.attempt
    (s.evEnabled && s.forms .receiving tra snap && !snap.getLsbD Sr1.addr && !snap.getLsbD Sr1.rxne
      && snap.getLsbD Sr1.stopf)
    State.armRxStop

/-- `EVT_RX_IDLE` (rule R110): no effect beyond the entry read. -/
def execEvtRxIdle (tra : Bool) (snap : Reg) (s : State) : Host.Outcome State Fault Refusal :=
  s.attempt
    (s.evEnabled && s.forms .receiving tra snap && !snap.getLsbD Sr1.addr && !snap.getLsbD Sr1.rxne
      && !snap.getLsbD Sr1.stopf)
    State.enterHandler

/-- `EVT_RESYNC` (rule R111), in `Waiting` and `ReceivedDataReady`. -/
def execEvtResync (tag : StageTag) (tra : Bool) (snap : Reg) (s : State) : Host.Outcome State Fault Refusal :=
  s.attempt (s.evEnabled && s.forms tag tra snap && tag.isIdle && !snap.getLsbD Sr1.addr)
    (State.armResync snap)

end Sys2Proof.Machine
end

