-- ==== Sys2Proof/Machine/TaskPort.lean ====
section
/-! DEFINITION. The task port (42_driver_handle.md): one meaning per TK row. Every TK step is one critical section
(rule R77) and passes the lifecycle gate (rule R151). -/

namespace Sys2Proof.Machine

/-- The registers `TK_INIT` leaves, its writes in the rule's order (rule R152). The `n`-th free values stand for
the unspecified CCR, TRISE and FLTR. -/
def Regs.construct (r : Regs) (freq : BitVec 6) (addr7 : BitVec 7) (n : Nat) : Regs :=
  let r1 := r.writeCR2 (0x0700#16 ||| freq.setWidth 16)
  let r2 := r1.writeOAR1 (0x4000#16 ||| (addr7.setWidth 16 <<< 1))
  let r3 := r2.writeOAR2 0x0000#16
  let r4 := r3.anyClock n
  r4.writeCR1 0x0401#16

/-- The construction itself (rule R152), after its checks. -/
def State.construct (addr7 : BitVec 7) (s : State) : State :=
  { s with
    clkEn := true
    regs := s.regs.construct s.cfg.cfgFreq addr7 s.run.free
    stage := .waiting
    txq := []
    wake := .empty
    task := .idle
    evEn := true
    erEn := true
    life := .active
    run := { s.run with free := s.run.free + 3 } }

/-- `TK_INIT` (rule R152): the checks in the rule's order (rule R205), then the construction. -/
def execTkInit (ictx : Bool) (addr7 : BitVec 7) (s : State) : Host.Outcome State Fault Refusal :=
  .next
    (if s.marked then s
     else if ictx then s.raise .panicInitInIsr
     else
       match s.life with
       | .released => s.raise .useAfterRelease
       | .active => s.raise .reinit
       | .unconstructed => s.construct addr7)

/-- The body of `TK_ENQUEUE` (rule R153): pushed at the tail, or rejected unchanged when the queue is full. -/
def State.enqueue (p : Packet) (s : State) : State :=
  if s.txq.length < s.cfg.txqCap then
    { s with txq := s.txq ++ [p], out := { s.out with enqResults := s.out.enqResults ++ [.ok] } }
  else { s with out := { s.out with enqResults := s.out.enqResults ++ [.rejected p] } }

/-- `TK_ENQUEUE` (rule R153). -/
def execTkEnqueue (p : Packet) (s : State) : Host.Outcome State Fault Refusal :=
  s.tkGate (State.enqueue p)

/-- The body of `TK_POLL` (rule R154): deliver a ready packet, else register, in one step or in two. -/
def State.poll (s : State) : State :=
  match s.stage with
  | .receivedDataReady p =>
    { s with
      out := { s.out with delivered := s.out.delivered ++ [p] }
      stage := .waiting
      regs := s.regs.setAck
      task := .idle }
  | .waiting | .receiving _ | .transmitting _ _ =>
    if s.cfg.pollRegisterAtomic then { s with wake := .registered, task := .suspended }
    else { s with task := .registering }

/-- `TK_POLL` (rule R154), enabled while `task` is IDLE or POLLING. -/
def execTkPoll (s : State) : Host.Outcome State Fault Refusal :=
  s.tkGate fun s => if s.pollEnabled then s.poll else s

/-- The body of `TK_REGISTER` (rule R155). -/
def State.register (s : State) : State := { s with wake := .registered, task := .suspended }

/-- `TK_REGISTER` (rule R155), enabled while `task` is REGISTERING. -/
def execTkRegister (s : State) : Host.Outcome State Fault Refusal :=
  s.tkGate fun s => if s.registerEnabled then s.register else s

/-- The body of `TK_TEARDOWN` (rules R156, R49): enables off, data discarded, register values unspecified. -/
def State.teardown (s : State) : State :=
  { s with
    evEn := false
    erEn := false
    clkEn := false
    txq := []
    stage := .waiting
    wake := .empty
    task := .idle
    life := .released
    regs := s.regs.anyValue s.run.free
    run := { s.run with free := s.run.free + 10 } }

/-- `TK_TEARDOWN` (rule R156). -/
def execTkTeardown (s : State) : Host.Outcome State Fault Refusal :=
  s.tkGate State.teardown

end Sys2Proof.Machine
end

