-- ==== Sys2Proof/Machine/Dispatch.lean ====
section
/-! DEFINITION. The dispatch of an instruction to its meaning, one arm per constructor. -/

namespace Sys2Proof.Machine

def exec (i : Instr) (s : State) : Host.Outcome State Fault Refusal :=
  match i with
  | .evtAddrRead tag snap => Sys2Proof.Machine.execEvtAddrRead tag snap s
  | .evtAddrWrite tag snap => Sys2Proof.Machine.execEvtAddrWrite tag snap s
  | .evtTxByte tra snap => Sys2Proof.Machine.execEvtTxByte tra snap s
  | .evtTxResync tra snap => Sys2Proof.Machine.execEvtTxResync tra snap s
  | .evtRxByte tra snap => Sys2Proof.Machine.execEvtRxByte tra snap s
  | .evtRxStop tra snap => Sys2Proof.Machine.execEvtRxStop tra snap s
  | .evtRxIdle tra snap => Sys2Proof.Machine.execEvtRxIdle tra snap s
  | .evtResync tag tra snap => Sys2Proof.Machine.execEvtResync tag tra snap s
  | .errNackEnd tra snap => Sys2Proof.Machine.execErrNackEnd tra snap s
  | .errRecoverTx tra snap => Sys2Proof.Machine.execErrRecoverTx tra snap s
  | .errRecoverRx tra snap => Sys2Proof.Machine.execErrRecoverRx tra snap s
  | .errRecoverIdle tag tra snap => Sys2Proof.Machine.execErrRecoverIdle tag tra snap s
  | .tkInit ictx addr7 => Sys2Proof.Machine.execTkInit ictx addr7 s
  | .tkEnqueue p => Sys2Proof.Machine.execTkEnqueue p s
  | .tkPoll => Sys2Proof.Machine.execTkPoll s
  | .tkRegister => Sys2Proof.Machine.execTkRegister s
  | .tkTeardown => Sys2Proof.Machine.execTkTeardown s
  | .busAddr rw => Sys2Proof.Machine.execBusAddr rw s
  | .busWrite data => Sys2Proof.Machine.execBusWrite data s
  | .busRead ack => Sys2Proof.Machine.execBusRead ack s
  | .busStop => Sys2Proof.Machine.execBusStop s
  | .busFault flags => Sys2Proof.Machine.execBusFault flags s

end Sys2Proof.Machine
end

