-- ==== Sys2Proof/Machine/Fetch.lean ====
section
/-! DEFINITION. How the next step is chosen and its word formed (rules R21, R88, R97, R157), the schedule spellings and
macros (rules R97, R98), and the placing of one table word so that the next step runs it. -/

namespace Sys2Proof

/-- The item of an instruction with no draw named. -/
def Instr.item (i : Instr) : StepItem where
  word := encode i
  operand := i.operand
  draw := none

end Sys2Proof

namespace Sys2Proof.Machine

/-- The item of a served line: the word of rule R88 with SRC = `src` (rules R82, R97). -/
def State.handlerItem (src : BitVec 2) (s : State) : StepItem where
  word := s.handlerWord src
  operand := []
  draw := none

/-- The instruction a call of the application issues (rule R157). -/
def CallOp.instr : CallOp → Instr
  | .init ictx a => .tkInit ictx a
  | .enqueue p => .tkEnqueue p
  | .receive => .tkPoll
  | .teardown => .tkTeardown

/-- The call an instruction can be, if it can be one (rule R157). -/
def CallOp.ofInstr : Instr → Option CallOp
  | .tkInit ictx a => some (.init ictx a)
  | .tkEnqueue p => some (.enqueue p)
  | .tkPoll => some .receive
  | .tkTeardown => some .teardown
  | _ => none

/-- A step of the scheduler (rule R157): the registration, which faults where it is issued outside ACTIVE (rule R155),
and the re-poll of a POLLING task. `task` has meaning only while ACTIVE (rule R30). -/
def State.bySchedulerAlone (s : State) : Instr → Bool
  | .tkRegister => true
  | .tkPoll => s.life == .active && s.task == .polling
  | _ => false

/-- The program's call `c` waits (rule R157): a `receive()` can be called only while `task` is IDLE, and a later call of
the receiver waits while it is REGISTERING or SUSPENDED. Calls of other tasks do not wait (DEDUCED, safe;
notes/assumptions/12.md). `task` is read only while ACTIVE (rule R30). -/
def State.holds (s : State) (c : Call) : Bool :=
  s.life == .active &&
    match c.op with
    | .receive => s.task != .idle
    | .init _ _ | .enqueue _ | .teardown => c.caller == .receiver && (s.task == .registering || s.task == .suspended)

/-- The task program that taking the step of `i` leaves, or `none` where rule R157 gives no such step.

A scheduler step is no call. A call is taken from the program, and only if it is the program's next one and does not
wait. Every other step is the environment's (rules R21, R183). -/
def State.grant (s : State) (i : Instr) : Option (List Call) :=
  if s.bySchedulerAlone i || (CallOp.ofInstr i).isNone then some s.run.prog
  else
    match s.run.prog with
    | [] => none
    | c :: cs => if c.op.instr = i ∧ s.holds c = false then some cs else none

/-- A spelled step (rule R97) chosen in `t`: the item, and the state with its draw named and its call taken from the
program; or no step. A word that matches no row is an item too: it is refused when it is issued (rule R95). -/
def State.fetchWord (t : State) (x : StepItem) : Option StepItem × State :=
  let taken (prog : List Call) : Option StepItem × State :=
    (some x, { t with run := { t.run with prog := prog, draw := x.draw } })
  match decode x.word x.operand with
  | .error _ => taken t.run.prog
  | .ok i =>
    match t.grant i with
    | none => (none, t)
    | some prog => taken prog

/-- The step the run's next choice names, and the state with that choice taken. `none` means that no step is taken:
the choices are used up, or rule R157 gives no such step. Another task's enqueue exists while ACTIVE (decision
D31). -/
def State.fetch (s : State) : Option StepItem × State :=
  match s.run.sched with
  | [] => (none, s)
  | c :: cs =>
    let t : State := { s with run := { s.run with sched := cs } }
    match c with
    | .ev => (some (t.handlerItem 0b00#2), { t with run := { t.run with draw := none } })
    | .er => (some (t.handlerItem 0b01#2), { t with run := { t.run with draw := none } })
    | .word x => t.fetchWord x
    | .otherEnqueue p =>
      if t.life = .active then (some (Instr.tkEnqueue p).item, { t with run := { t.run with draw := none } })
      else (none, t)

/-! ## Schedule spellings and macros (rules R97, R98) -/

/-- A spelled step as a choice (rule R97). -/
def Choice.of (i : Instr) : Choice := .word i.item

/-- A spelled step with a draw in braces (rule R97). -/
def Choice.drawing (i : Instr) (b : Bool) : Choice :=
  .word { word := encode i, operand := i.operand, draw := some b }

/-- `host.write B0 .. Bn-1` (rule R98). -/
def Macro.hostWrite (bs : List Byte) : List Choice :=
  [Choice.of (.busAddr false), .ev] ++ bs.flatMap (fun b => [Choice.of (.busWrite b), .ev])
    ++ [Choice.of .busStop, .ev]

/-- `host.read n` for `n ≥ 1` (rule R98). -/
def Macro.hostRead (n : Nat) : List Choice :=
  [Choice.of (.busAddr true), .ev] ++ (List.range (n - 1)).flatMap (fun _ => [.ev, Choice.of (.busRead true)])
    ++ [.ev, Choice.drawing (.busRead false) false, .er, Choice.drawing .busStop false]

/-- `receive` (rule R98): `poll`, then `register`, which is not taken unless the poll left REGISTERING. -/
def Macro.receive : List Choice := [Choice.of .tkPoll, Choice.of .tkRegister]

/-! ## Placing one table word -/

/-- A stage with tag `tag`: the present one if it has it, else one with an empty payload. -/
def Stage.withTag (c : Params) (st : Stage) (tag : StageTag) : Stage :=
  if st.tag = tag then st
  else
    match tag with
    | .waiting => .waiting
    | .receivedDataReady => .receivedDataReady c.defaultPacket
    | .receiving => .receiving []
    | .transmitting => .transmitting c.defaultPacket 0

/-- What a handler word takes to exist (rules R82, R88, R101, R131): a live driver whose stage, direction bit and
SR1 are those of the word, with the lines enabled. -/
def State.readyHandler (s : State) (tag : StageTag) (tra : Bool) (snap : Reg) : State :=
  { s with
    life := .active
    clkEn := true
    evEn := true
    erEn := true
    stage := s.stage.withTag s.cfg tag
    regs := { s.regs with
      cr2 := s.regs.cr2 ||| 0x0700#16
      sr1 := snap
      sr2 := setFlag s.regs.sr2 Sr2.tra tra } }

/-- What a bus word takes (rule R176), with the phase it needs and the SR1 flags it needs clear. -/
def State.readyBus (s : State) (cr1 : Reg) (phase : BusPhase) (clear : Reg) : State :=
  { s with
    life := .active
    clkEn := true
    busPhase := phase
    regs := { s.regs with cr1 := s.regs.cr1 ||| cr1, sr1 := s.regs.sr1 &&& ~~~clear } }

/-- What a call takes (rule R157): it is the program's next one, and one that does not wait. -/
def State.readyCall (s : State) (op : CallOp) : State :=
  { s with run := { s.run with prog := { op := op, caller := .other } :: s.run.prog } }

/-- The state in which the step of `i` can be taken (rules R14, R157), as far as it is not so already. A call needs
no driver: before construction its effect is the fault of rule R151. -/
def State.ready (s : State) : Instr → State
  | .evtAddrRead tag e => s.readyHandler tag true e
  | .evtAddrWrite tag e => s.readyHandler tag false e
  | .evtTxByte tra e => s.readyHandler .transmitting tra e
  | .evtTxResync tra e => s.readyHandler .transmitting tra e
  | .evtRxByte tra e => s.readyHandler .receiving tra e
  | .evtRxStop tra e => s.readyHandler .receiving tra e
  | .evtRxIdle tra e => s.readyHandler .receiving tra e
  | .evtResync tag tra e => s.readyHandler tag tra e
  | .errNackEnd tra e => s.readyHandler .transmitting tra e
  | .errRecoverTx tra e => s.readyHandler .transmitting tra e
  | .errRecoverRx tra e => s.readyHandler .receiving tra e
  | .errRecoverIdle tag tra e => s.readyHandler tag tra e
  | .tkInit ictx a => s.readyCall (.init ictx a)
  | .tkEnqueue p => s.readyCall (.enqueue p)
  | .tkPoll =>
    if s.life = .active then { s.readyCall .receive with task := .idle } else s.readyCall .receive
  | .tkRegister => { s with life := .active, task := .registering }
  | .tkTeardown => s.readyCall .teardown
  | .busAddr _ => s.readyBus 0x0401#16 s.busPhase 0x0002#16
  | .busWrite _ => s.readyBus 0x0401#16 .rx 0x0042#16
  | .busRead _ => s.readyBus 0x0001#16 .tx 0x0082#16
  | .busStop => s.readyBus 0x0001#16 (if s.busPhase = .idle then .rx else s.busPhase) 0x0002#16
  | .busFault _ => s.readyBus 0x0001#16 s.busPhase 0x0000#16

/-- `s` with the item chosen next, no mark, and the item's step able to be taken (notes/assumptions/3.md). -/
def State.withItem (s : State) (x : StepItem) : State :=
  let t : State :=
    { s with fault := none, refused := none, run := { s.run with sched := .word x :: s.run.sched } }
  match decode x.word x.operand with
  | .error _ => t
  | .ok i => t.ready i

end Sys2Proof.Machine
end

