-- ==== Sys2Proof/Machine/Issue.lean ====
section
/-! DEFINITION. The body of one step: what stops a step before it is chosen, and what an item of the schedule does. -/

namespace Sys2Proof.Machine

/-- An item taken in `t`: decoded and executed.

A word that matches no row is refused by the sticky mark (rules R89, R94, R95). A `TK_ENQUEUE` operand that is no
packet (rule R13) is no instruction of the machine (notes/assumptions/13.md). -/
def State.issue (x : StepItem) (t : State) : Host.Outcome State Fault Refusal :=
  match decode x.word x.operand with
  | .error _ => .next (t.refuse .reservedEncoding)
  | .ok i => if i.wellFormed t.cfg.packetLen then exec i t else .refused .operandNotPacket

/-- One step. A marked state takes none (rules R205, R206). Parameters outside rule R9's relations are refused
before any step (rule R95; notes/assumptions/11.md). Where the fetch names no step, none is taken. -/
def State.takeStep (s : State) : Host.Outcome State Fault Refusal :=
  if s.marked then .next s
  else if !s.cfg.admitted then .next (s.refuse .unadmittedParameter)
  else
    match s.fetch with
    | (none, t) => .next t
    | (some x, t) => State.issue x t

end Sys2Proof.Machine
end

