-- ==== Sys2Proof/Machine/Step.lean ====
section
/-! DEFINITION. One step of the machine, and the placing of a table word for the next step. -/

namespace Sys2Proof.Machine

/-- One step: the run's next choice is fetched, its word decoded and the instruction executed. -/
def step (s : State) : Host.Outcome State Fault Refusal := s.takeStep

/-- `s` with the table word `w` chosen next, so that the next step runs it (notes/assumptions/3.md). -/
def State.withFetchWord (s : State) (nbits w : Nat) : State :=
  s.withItem (itemOfTableWord s.cfg.packetLen nbits w)

end Sys2Proof.Machine
end

