-- ==== Sys2Proof/Safety.lean ====
section
/-! DEFINITION. What claims are stated in: the end of a run (rule R260), the state after construction (rule R242), the
invariants the spec gives its state, and the liveness premises of rules R216 and R257. -/

namespace Sys2Proof

/-- An EV row: SRC is 00 (rules R82, R90). -/
def Instr.isEv (i : Instr) : Bool := i.fields.src == 0b00#2

/-- An ER row: SRC is 01 (rules R82, R91). -/
def Instr.isEr (i : Instr) : Bool := i.fields.src == 0b01#2

/-- A TK row: SRC is 10 (rules R82, R92). -/
def Instr.isTk (i : Instr) : Bool := i.fields.src == 0b10#2

/-- A BUS row: SRC is 11 (rules R82, R93). -/
def Instr.isBus (i : Instr) : Bool := i.fields.src == 0b11#2

end Sys2Proof

namespace Sys2Proof.Machine

/-! ## The end of a run (rule R260) -/

/-- No handler step is enabled (rule R260, condition 1). -/
def State.noHandler (s : State) : Bool := !s.evEnabled && !s.erEnabled

/-- The run is over (rule R260): no handler is enabled, the task program is exhausted with the task IDLE or
SUSPENDED (`task` has meaning only while ACTIVE, rule R30), and no further choice, the host's among them, is left. A
marked state is quiescent whatever is left (rules R205, R260): no step of any agent is enabled in it. -/
def State.over (s : State) : Bool :=
  s.marked
    || s.noHandler && s.run.prog.isEmpty && (s.life != .active || s.task == .idle || s.task == .suspended)
      && s.run.sched.isEmpty

/-- A run that is over is good when no mark is set (rule R260). -/
def State.good (s : State) : Bool := s.over && !s.marked

/-- The observation of a good run (rule R260). -/
def State.observed (s : State) : Outputs × Stage × List Packet × TaskMode × Bool × Life :=
  (s.out, s.stage, s.txq, s.task, s.regs.ack, s.life)

/-- `CleanActive(a)` (rule R242), with the rule's 'any value' for CCR, TRISE and FLTR, for parameters `c` and run
inputs `r`. -/
def State.cleanActive (c : Params) (a : BitVec 7) (ccr trise fltr : Reg) (r : RunInput) : State :=
  { State.reset with
    cfg := c
    life := .active
    clkEn := true
    evEn := true
    erEn := true
    regs := { Regs.powerOn with
      cr1 := 0x0401#16
      cr2 := 0x0700#16 ||| c.cfgFreq.setWidth 16
      oar1 := 0x4000#16 ||| (a.setWidth 16 <<< 1)
      ccr := ccr
      trise := trise
      fltr := fltr }
    run := r }

/-! ## Invariants of the state -/

/-- Every reserved bit reads 0 (rule R31). -/
abbrev Regs.ReservedZero (r : Regs) : Prop :=
  r.cr1 &&& ~~~Cr1.defined = 0#16 ∧ r.cr2 &&& ~~~Cr2.defined = 0#16 ∧ r.oar1 &&& ~~~Oar1.defined = 0#16
    ∧ r.sr1 &&& ~~~Sr1.defined = 0#16 ∧ r.sr2 &&& ~~~Sr2.defined = 0#16

/-- The payload of a stage is within its bounds (rules R24 to R26). -/
def Stage.bounded (c : Params) : Stage → Bool
  | .waiting => true
  | .receivedDataReady p => decide (p.length = c.packetLen)
  | .receiving b => decide (b.length ≤ c.rxCap)
  | .transmitting p k => decide (p.length = c.packetLen) && decide (k ≤ 2 ^ c.cursorW - 1)

/-- The bounds of the queue, the stage and the delivered packets (rules R13, R24 to R27, R43). -/
abbrev State.Bounded (s : State) : Prop :=
  s.txq.length ≤ s.cfg.txqCap ∧ (∀ p ∈ s.txq, p.length = s.cfg.packetLen)
    ∧ s.stage.bounded s.cfg = true ∧ (∀ p ∈ s.out.delivered, p.length = s.cfg.packetLen)

/-- The values the control registers and the enables keep while ACTIVE (rules R32 to R34, R38 to R40): CR1 is PE with
ACK free, CR2 is 0x0700 OR `CFG_FREQ`, OAR1 is 0x4000 OR an address, OAR2 is 0, every enable is 1. -/
abbrev State.ActiveConfigured (s : State) : Prop :=
  s.life = .active →
    (s.regs.cr1 = 0x0401#16 ∨ s.regs.cr1 = 0x0001#16)
      ∧ s.regs.cr2 = 0x0700#16 ||| s.cfg.cfgFreq.setWidth 16
      ∧ s.regs.oar1 = 0x4000#16 ||| (s.regs.ownAddress.setWidth 16 <<< 1)
      ∧ s.regs.oar2 = 0#16 ∧ s.clkEn = true ∧ s.evEn = true ∧ s.erEn = true

/-- While the driver is not ACTIVE every enable is 0 (rules R40, R48, R49). -/
abbrev State.DisabledOutside (s : State) : Prop :=
  s.life ≠ .active → s.clkEn = false ∧ s.evEn = false ∧ s.erEn = false

/-- While ACTIVE, ACK is 0 exactly in `ReceivedDataReady` (rule R50), and a pending address match has ACK = 1 (the
ground rule R50 gives for it). -/
abbrev State.AckMatchesStage (s : State) : Prop :=
  s.life = .active →
    (s.regs.ack = false ↔ s.stage.tag = .receivedDataReady) ∧ (s.regs.flag Sr1.addr = true → s.regs.ack = true)

/-- While ACTIVE, a waiter is registered exactly while the task is SUSPENDED (rules R28, R29), and REGISTERING exists
only without the atomic registration (rule R29). -/
abbrev State.WaiterAgrees (s : State) : Prop :=
  s.life = .active →
    (s.wake = .registered ↔ s.task = .suspended)
      ∧ (s.cfg.pollRegisterAtomic = true → s.task ≠ .registering)

/-- Before construction every register has its power-on value and the bus agent has seen nothing (rules R241,
R242). -/
abbrev State.UntouchedBeforeInit (s : State) : Prop :=
  s.life = .unconstructed → s.regs = Regs.powerOn ∧ s.busPhase = .idle

/-- While ACTIVE, SB, ADD10 and BTF are 0, and every bit of SR2 but BUSY and TRA (rules R35, R36, R182). -/
abbrev State.NeverSetFlags (s : State) : Prop :=
  s.life = .active → s.regs.sr1 &&& 0x000D#16 = 0#16 ∧ s.regs.sr2 &&& ~~~0x0006#16 = 0#16

/-- While ACTIVE, a pending address match agrees with the bus agent's phase, and a receiving stage with no pending
address match sees no TXE (the ground of rule R254). The agreement of TRA with the phase rests on the model's choice
between rules R177 and R182 (notes/assumptions/27.md). -/
abbrev State.TransferAgrees (s : State) : Prop :=
  s.life = .active →
    (s.regs.flag Sr1.addr = true →
        (s.regs.tra = true → s.busPhase = .tx)
          ∧ (s.regs.tra = false → s.busPhase = .rx ∧ s.regs.flag Sr1.txe = false))
      ∧ (s.stage.tag = .receiving → s.regs.flag Sr1.addr = false →
          s.regs.flag Sr1.txe = false ∧ (s.busPhase = .rx ∨ s.busPhase = .idle))

/-! ## Premises of liveness claims (rules R216, R257) -/

/-- The instruction a step of `s` takes, if it takes one. -/
def State.nextInstr (s : State) : Option Instr :=
  if s.marked || !s.cfg.admitted then none
  else
    match s.fetch with
    | (none, _) => none
    | (some x, _) => (decode x.word x.operand).toOption

/-- `s` with `c` as its next and only choice. -/
def State.choosing (s : State) (c : Choice) : State := { s with run := { s.run with sched := [c] } }

/-- The states `f` are an execution under the choices `c`: each state is the one the step of that choice gives from the
state before. The choices come without end, so an execution may be infinite (rules R21, R254); the schedule that a
state holds is only the finite piece of one run that it replays. -/
def Execution (c : Nat → Choice) (f : Nat → State) : Prop := ∀ n, step ((f n).choosing (c n)) = .next (f (n + 1))

/-- The instruction the `n`-th step of an execution takes, if it takes one. -/
def takenAt (c : Nat → Choice) (f : Nat → State) (n : Nat) : Option Instr := ((f n).choosing (c n)).nextInstr

/-- `i` is the handler step that rule R88 forms in `s`. -/
def State.formsInstr (src : BitVec 2) (s : State) (i : Instr) : Bool :=
  i.fields == Fields.handler src s.stage.tag s.regs.tra s.regs.sr1

/-- The step of `i` is enabled in `s` (rules R14, R101, R131, R151, R154, R155, R176 to R181). A disabled step may be
chosen, but is not taken (rule R82). -/
def State.stepEnabled (s : State) (i : Instr) : Bool :=
  match i with
  | .evtAddrRead _ _ | .evtAddrWrite _ _ | .evtTxByte _ _ | .evtTxResync _ _ | .evtRxByte _ _ | .evtRxStop _ _
  | .evtRxIdle _ _ | .evtResync _ _ _ => s.evEnabled && s.formsInstr 0b00#2 i
  | .errNackEnd _ _ | .errRecoverTx _ _ | .errRecoverRx _ _ | .errRecoverIdle _ _ _ =>
    s.erEnabled && s.formsInstr 0b01#2 i
  | .tkInit _ _ | .tkEnqueue _ | .tkTeardown => !s.marked
  | .tkPoll => !s.marked && (s.life != .active || s.pollEnabled)
  | .tkRegister => !s.marked && (s.life != .active || s.registerEnabled)
  | .busAddr _ => s.busAddrEnabled
  | .busWrite _ => s.busWriteEnabled
  | .busRead _ => s.busReadEnabled
  | .busStop => s.busStopEnabled
  | .busFault _ => s.busEnabled

/-- The `n`-th step of an execution is a step of `i` that is enabled, so that it runs. -/
def ranAt (c : Nat → Choice) (f : Nat → State) (n : Nat) (i : Instr) : Prop :=
  takenAt c f n = some i ∧ (f n).stepEnabled i = true

/-- Weak fairness (rule R216): where a step of a kind stays enabled from some point on, one of the kind runs after
it. -/
def WeaklyFair (enabled : State → Bool) (kind : Instr → Bool) (c : Nat → Choice) (f : Nat → State) : Prop :=
  ∀ n, (∀ m, n ≤ m → enabled (f m) = true) → ∃ m i, n ≤ m ∧ ranAt c f m i ∧ kind i = true

/-- A POLLING task is there to be polled (rule R157). -/
def State.pollable (s : State) : Bool := !s.marked && s.life == .active && s.task == .polling

/-- The weak fairness a liveness claim may assume (rules R216, R257): both handlers and a POLLING task. It obliges the
host to nothing. -/
def FairHandlers (c : Nat → Choice) (f : Nat → State) : Prop :=
  WeaklyFair State.evEnabled Instr.isEv c f ∧ WeaklyFair State.erEnabled Instr.isEr c f
    ∧ WeaklyFair State.pollable (· == .tkPoll) c f

/-- Premise HostCompletes (rule R257): every transfer the host starts ends with a stop, and so not with a repeated
start. -/
def HostCompletes (c : Nat → Choice) (f : Nat → State) : Prop :=
  ∀ n, (f n).busPhase ≠ .idle →
    ∃ m, n ≤ m ∧ ranAt c f m .busStop ∧ ∀ k rw, n ≤ k → k < m → ¬ranAt c f k (.busAddr rw)

/-- The `n`-th step of an execution is an EV step that serves the pending stop: it clears STOPF. -/
def stopServedAt (c : Nat → Choice) (f : Nat → State) (n : Nat) : Prop :=
  (∃ i, i.isEv = true ∧ ranAt c f n i) ∧ (f n).regs.flag Sr1.stopf = true ∧ (f (n + 1)).regs.flag Sr1.stopf = false

/-- Premise StopServedFirst (rule R257): between a state with a pending stop and any later address of the host an EV
step has served the stop. A stop that an error recovery clears has not been served by the EV handler. A stop that raises
no STOPF (rule R180's draw) leaves nothing to serve, and a repeated start over an unread byte (RXNE = 1, STOPF = 0) meets
the premise, although rule R253 says that the premise excludes a stale byte after a restart too (DESIGN CHOICE, safe;
notes/assumptions/29.md). -/
def StopServedFirst (c : Nat → Choice) (f : Nat → State) : Prop :=
  ∀ n m rw, n ≤ m → (f n).regs.flag Sr1.stopf = true → ranAt c f m (.busAddr rw) →
    ∃ k, n ≤ k ∧ k < m ∧ stopServedAt c f k

/-- Premise NoFaultInReady (rule R257): no fault flag rises while the stage is `ReceivedDataReady`. The stage has meaning
only while ACTIVE (rule R30), so the values that a teardown leaves in SR1 (rule R49) are no flag rising there (DESIGN
CHOICE, safe; notes/assumptions/31.md). -/
def NoFaultInReady (f : Nat → State) : Prop :=
  ∀ n, (f n).life = .active → (f (n + 1)).life = .active → (f n).stage.tag = .receivedDataReady →
    faultByte (f (n + 1)).regs.sr1 &&& ~~~faultByte (f n).regs.sr1 = 0#8

/-- Premise AtomicRegister (rule R257): the registration is atomic, or no `EVT_RX_STOP` runs while the task is
REGISTERING. -/
def AtomicRegister (c : Nat → Choice) (f : Nat → State) : Prop :=
  (∀ n, (f n).cfg.pollRegisterAtomic = true)
    ∨ ∀ n tra e, ranAt c f n (.evtRxStop tra e) → (f n).task ≠ .registering

end Sys2Proof.Machine
end

