-- ==== Sys2Proof/Certificates/Slice0/Obligations.lean ====
section
/-! DEFINITION. The statements about the model, each from the numbered rules its docstring names. -/

open Sys2Proof Sys2Proof.Machine

/-! ## Encoding (30_encoding.md) -/

/-- Rules R81 to R94: the decoder reads back every well-formed instruction from its word and its operand, with every
field at every value the encoding admits. -/
def Obligations.DecodeEncodeAgree : Prop :=
  ∀ (n : Nat) (i : Instr), i.wellFormed n = true → decode (encode i) i.operand = .ok i

/-- Rules R81 to R94: a word that decodes is the word of the instruction it decodes to, which is well-formed, and a
packet operand is the one given: no bit of a word is dropped. -/
def Obligations.DecodedWordReencodes : Prop :=
  ∀ (w : Word) (p : Packet) (i : Instr), decode w p = .ok i →
    encode i = w ∧ i.wellFormed p.length = true ∧ (i = .tkEnqueue p ∨ i.operand = [])

/-- Rules R89 to R93: the decoder selects exactly the row of the opcode map with `(W AND mask) = match`, and
rejects exactly the words that match no row. -/
def Obligations.DecoderFollowsOpcodeMap : Prop :=
  (∀ (w : Word) (p : Packet) (i : Instr), decode w p = .ok i →
      ∀ r ∈ opcodeMap, (r.selects w = true ↔ r.mnemonic = i.mnemonic))
    ∧ ∀ (w : Word) (p : Packet) (x : Reject), decode w p = .error x → ∀ r ∈ opcodeMap, r.selects w = false

/-- Rule R89: rows are mutually exclusive; no word matches two rows. -/
def Obligations.OpcodeRowsAreExclusive : Prop :=
  ∀ w : Word, opcodeMap.Pairwise fun a b => ¬(a.selects w = true ∧ b.selects w = true)

/-- Rules R88, R89: in every state the handler words that rule R88 forms decode, an EV word to an EV row and an ER
word to an ER row, and the row's instruction carries the stage tag, `SR2.TRA` and SR1 of the state. -/
def Obligations.HandlerWordsAlwaysDecode : Prop :=
  ∀ s : State,
    (∃ i : Instr, decode (s.handlerWord 0b00#2) [] = .ok i ∧ i.isEv = true
        ∧ i.fields = Fields.handler 0b00#2 s.stage.tag s.regs.tra s.regs.sr1)
      ∧ ∃ i : Instr, decode (s.handlerWord 0b01#2) [] = .ok i ∧ i.isEr = true
        ∧ i.fields = Fields.handler 0b01#2 s.stage.tag s.regs.tra s.regs.sr1

/-- Rules R90 to R94 on a few words written out from the encoding tables: one per family, and a reserved word of
each kind. -/
def Obligations.WordsFromTheTablesDecode : Prop :=
  decode 0x00010082#32 [] = .ok (.evtAddrRead .waiting 0x0082#16)
    ∧ decode 0x70010400#32 [] = .ok (.errNackEnd true 0x0400#16)
    ∧ decode 0x8001002A#32 [] = .ok (.tkInit true 0x2A#7)
    ∧ decode 0xC400DF00#32 [] = .ok (.busFault 0xDF#8)
    ∧ decode 0xC0020000#32 [] = .error .resNotZero
    ∧ decode 0x85000000#32 [] = .error .opReserved
    ∧ decode 0x90000000#32 [] = .error .stageNotZero
    ∧ decode 0xC4002000#32 [] = .error .unusedNotZero

/-! ## The step -/

/-- A step runs the decoded instruction: where no mark is set, the parameters are admitted, and the run's next choice
names the item `x` and leaves `t`, and the item decodes to a well-formed instruction `i`, the step is `exec i t`;
`t` is `s` but for the run's inputs. The choice and the program are the model's own state (notes/assumptions/2.md). -/
def Obligations.StepRunsTheDecodedInstruction : Prop :=
  ∀ (s t : State) (x : StepItem) (i : Instr),
    s.marked = false → s.cfg.admitted = true → s.fetch = (some x, t) → decode x.word x.operand = .ok i →
      i.wellFormed s.cfg.packetLen = true → step s = exec i t ∧ t = { s with run := t.run }

/-- Rules R88, R97: the choice `ev` (or `er`) runs the one instruction that the word rule R88 forms in the state decodes
to; it carries the stage tag, `SR2.TRA` and SR1 of the state. -/
def Obligations.LineChoiceRunsTheFormedWord : Prop :=
  ∀ (s : State) (cs : List Choice), s.marked = false → s.cfg.admitted = true →
    (s.run.sched = .ev :: cs →
        ∃ i : Instr, decode (s.handlerWord 0b00#2) [] = .ok i ∧ i.wellFormed s.cfg.packetLen = true
          ∧ i.fields = Fields.handler 0b00#2 s.stage.tag s.regs.tra s.regs.sr1
          ∧ step s = exec i { s with run := { s.run with sched := cs, draw := none } })
      ∧ (s.run.sched = .er :: cs →
        ∃ i : Instr, decode (s.handlerWord 0b01#2) [] = .ok i ∧ i.wellFormed s.cfg.packetLen = true
          ∧ i.fields = Fields.handler 0b01#2 s.stage.tag s.regs.tra s.regs.sr1
          ∧ step s = exec i { s with run := { s.run with sched := cs, draw := none } })

/-- Rules R94, R95, R206: a word that matches no row is refused with `RESERVED_ENCODING`, and nothing else changes but
the schedule it was taken from. -/
def Obligations.ReservedWordIsRefused : Prop :=
  ∀ (s : State) (x : StepItem) (cs : List Choice) (e : Reject),
    s.marked = false → s.cfg.admitted = true → s.run.sched = .word x :: cs → decode x.word x.operand = .error e →
      step s = .next { s with
        refused := some .reservedEncoding
        run := { s.run with sched := cs, draw := x.draw } }

/-- Rules R205, R206: once a mark is set no step of any agent is enabled; the state stays as it is. -/
def Obligations.MarkedStateTakesNoStep : Prop :=
  ∀ s : State, (s.fault ≠ none ∨ s.refused ≠ none) →
    step s = .next s ∧ ∀ i : Instr, exec i s = .next s

/-- Rules R9, R95: parameters outside the relations are refused with `UNADMITTED_PARAMETER` and no other change. That
the refusal comes at the next step is the model's choice (notes/assumptions/11.md). -/
def Obligations.UnadmittedParametersAreRefused : Prop :=
  ∀ s : State, s.marked = false →
    ¬(s.cfg.packetLen ≤ s.cfg.rxCap ∧ s.cfg.packetLen < 2 ^ s.cfg.cursorW ∧ s.cfg.rxCap ≤ 255 ∧ 1 ≤ s.cfg.txqCap) →
      step s = .next { s with refused := some .unadmittedParameter }

/-- Rule R157, for a chosen step that is the program's next call `c`: while ACTIVE, it waits if the receiver made it and
is REGISTERING or SUSPENDED, and a `receive()` waits unless the task is IDLE; else the call is taken from the program.
A step that is a call but not the program's next one is not taken. The re-poll of a POLLING task and the registration
are taken with the program as it is. The schedule and the caller of a call are the model's own
(notes/assumptions/2.md, 12.md). -/
def Obligations.ApplicationCallsWaitWhileReceiving : Prop :=
  ∀ (s : State) (cs : List Choice), s.marked = false → s.cfg.admitted = true →
    (∀ (c : Call) (ps : List Call), s.run.sched = Choice.of c.op.instr :: cs → s.run.prog = c :: ps →
        (s.life = .active → c.caller = .receiver → s.task = .registering ∨ s.task = .suspended →
            step s = .next { s with run := { s.run with sched := cs } })
          ∧ (s.life = .active → c.op = .receive → s.task = .registering ∨ s.task = .suspended →
            step s = .next { s with run := { s.run with sched := cs } })
          ∧ (s.life ≠ .active ∨ s.task = .idle
              ∨ (c.op ≠ .receive ∧ (c.caller = .other ∨ s.task = .polling)) →
            s.fetch = (some c.op.instr.item, { s with run := { s.run with sched := cs, prog := ps, draw := none } })))
      ∧ (∀ o : CallOp, s.run.sched = Choice.of o.instr :: cs → (∀ c ps, s.run.prog = c :: ps → c.op ≠ o) →
          ¬(o = .receive ∧ s.life = .active ∧ s.task = .polling) →
          step s = .next { s with run := { s.run with sched := cs } })
      ∧ (s.run.sched = Choice.of .tkPoll :: cs → s.life = .active → s.task = .polling →
          s.fetch = (some (Instr.item .tkPoll), { s with run := { s.run with sched := cs, draw := none } }))
      ∧ (s.run.sched = Choice.of .tkRegister :: cs →
          s.fetch = (some (Instr.item .tkRegister), { s with run := { s.run with sched := cs, draw := none } }))

/-- Rules R14, R82, R176: a disabled step is not taken, and that is no fault: the state stays as it is. -/
def Obligations.DisabledStepsAreNotTaken : Prop :=
  ∀ (i : Instr) (s : State),
    ((i.isEv = true ∧ s.evEnabled = false) ∨ (i.isEr = true ∧ s.erEnabled = false)
        ∨ (i.isBus = true ∧ s.busEnabled = false)
        ∨ (i = .tkPoll ∧ s.life = .active ∧ (s.task = .registering ∨ s.task = .suspended))
        ∨ (i = .tkRegister ∧ s.life = .active ∧ s.task ≠ .registering)
        ∨ (∃ rw, i = .busAddr rw ∧ (s.regs.ack = false ∨ s.regs.flag Sr1.addr = true))
        ∨ (∃ b, i = .busWrite b ∧ (s.busPhase ≠ .rx ∨ s.regs.flag Sr1.addr = true ∨ s.regs.flag Sr1.rxne = true
            ∨ s.regs.ack = false))
        ∨ (∃ a, i = .busRead a ∧ (s.busPhase ≠ .tx ∨ s.regs.flag Sr1.addr = true ∨ s.regs.flag Sr1.txe = true))
        ∨ (i = .busStop ∧ (s.busPhase = .idle ∨ s.regs.flag Sr1.addr = true))) →
      exec i s = .next s

/-! ## Interrupt lines and enabling (60_exceptions.md) -/

/-- Rules R209, R210: the two lines are asserted exactly when their formulas hold. -/
def Obligations.InterruptLinesFollowTheirFormulas : Prop :=
  ∀ s : State,
    (s.evLine = true ↔
        s.clkEn = true ∧ s.regs.cr2.getLsbD 9 = true
          ∧ (s.regs.sr1.getLsbD 0 = true ∨ s.regs.sr1.getLsbD 1 = true ∨ s.regs.sr1.getLsbD 3 = true
              ∨ s.regs.sr1.getLsbD 4 = true ∨ s.regs.sr1.getLsbD 2 = true
              ∨ (s.regs.cr2.getLsbD 10 = true ∧ (s.regs.sr1.getLsbD 7 = true ∨ s.regs.sr1.getLsbD 6 = true))))
      ∧ (s.erLine = true ↔
        s.clkEn = true ∧ s.regs.cr2.getLsbD 8 = true ∧ ∃ i, 8 ≤ i ∧ i < 16 ∧ s.regs.sr1.getLsbD i = true)

/-- Rules R101, R131, R215: each handler step is enabled exactly when its conditions hold. That the order of R215 looks
at the other line and not at the other handler's own enable is the model's reading (notes/assumptions/16.md). -/
def Obligations.HandlersAreEnabledExactly : Prop :=
  ∀ s : State,
    (s.evEnabled = true ↔
        s.life = .active ∧ s.fault = none ∧ s.refused = none ∧ s.clkEn = true ∧ s.evEn = true ∧ s.evLine = true
          ∧ (s.cfg.irqOrder = .erFirst → s.erLine = false))
      ∧ (s.erEnabled = true ↔
        s.life = .active ∧ s.fault = none ∧ s.refused = none ∧ s.clkEn = true ∧ s.erEn = true ∧ s.erLine = true
          ∧ (s.cfg.irqOrder = .evFirst → s.evLine = false))

/-! ## Register access (20_memory.md) -/

/-- Rules R64, R65: an SR1 read changes no flag and arms the clear sequences; an SR2 read clears ADDR exactly when it
was armed. -/
def Obligations.AddressMatchClearsInOrder : Prop :=
  ∀ r : Regs,
    r.readSR1 = (r.sr1, { r with addrArmed := r.sr1.getLsbD 1, stopfArmed := r.sr1.getLsbD 4 })
      ∧ r.readSR2.1 = r.sr2
      ∧ (r.addrArmed = true → r.readSR2.2 = { r with sr1 := setFlag r.sr1 1 false, addrArmed := false })
      ∧ (r.addrArmed = false → r.readSR2.2 = r)

/-- Rules R66, R67, R68: what DR accesses and a CR1 write store and clear. -/
def Obligations.DataAndControlAccessesClearFlags : Prop :=
  ∀ (r : Regs) (b : Byte) (v : Reg),
    r.readDR = (r.dr, { r with sr1 := r.sr1 &&& 0xFFBB#16 })
      ∧ r.writeDR b = { r with dr := b, sr1 := r.sr1 &&& 0xFF7B#16 }
      ∧ (r.stopfArmed = true →
        r.writeCR1 v = { r with cr1 := v &&& 0xBFFB#16, sr1 := r.sr1 &&& 0xFFEF#16, stopfArmed := false })
      ∧ (r.stopfArmed = false → r.writeCR1 v = { r with cr1 := v &&& 0xBFFB#16 })
      ∧ r.setAck = r.writeCR1 (r.cr1 ||| 0x0400#16)
      ∧ r.clearAck = r.writeCR1 (r.cr1 &&& ~~~0x0400#16)
      ∧ r.touchCR1 = r.writeCR1 r.cr1

/-- Rule R69: an SR1 write clears each rc_w0 bit written 0 and leaves every other bit unchanged, whatever is
written. -/
def Obligations.StatusWriteClearsFaultFlagsOnly : Prop :=
  ∀ (r : Regs) (v : Reg),
    (∀ i, i < 16 →
        (r.writeSR1 v).sr1.getLsbD i
          = if i ∈ [8, 9, 10, 11, 12, 14, 15] ∧ v.getLsbD i = false then false else r.sr1.getLsbD i)
      ∧ { r.writeSR1 v with sr1 := r.sr1 } = r

/-- Rules R12, R61, R62, R63, R70: an access of a register at its offset with its width is the named access; an offset
outside the map, or a byte of a slot above the register's width, is refused as `UNMAPPED`, and any other width or
alignment as `BAD_WIDTH`, with no other change; a refusal that stands already keeps its reason (rule R44); a platform
address counts from `I2C_BASE`. It says so whatever CLK_EN is and whatever mark stands, with the order of the two
reasons and with the defined bits of OAR2 and the writes of CCR, TRISE and FLTR as the model chooses them
(notes/assumptions/8.md, 10.md, 28.md, 30.md). -/
def Obligations.RegisterSpaceAccessesFollowTheMap : Prop :=
  ∀ (s : State) (off n : Nat) (v : Reg),
    (0x28 ≤ off → s.memRead off n = (none, s.refuse .unmapped) ∧ s.memWrite off n v = s.refuse .unmapped)
      ∧ (off < 0x28 → off / 4 ≠ 4 → 2 ≤ off % 4 →
        s.memRead off n = (none, s.refuse .unmapped) ∧ s.memWrite off n v = s.refuse .unmapped)
      ∧ (off / 4 = 4 → 1 ≤ off % 4 →
        s.memRead off n = (none, s.refuse .unmapped) ∧ s.memWrite off n v = s.refuse .unmapped)
      ∧ (off < 0x28 → off / 4 ≠ 4 → off % 4 < 2 → ¬(off % 4 = 0 ∧ n = 2) →
        s.memRead off n = (none, s.refuse .badWidth) ∧ s.memWrite off n v = s.refuse .badWidth)
      ∧ (off = 0x10 → n ≠ 1 →
        s.memRead off n = (none, s.refuse .badWidth) ∧ s.memWrite off n v = s.refuse .badWidth)
      ∧ s.memRead 0x00 2 = (some s.regs.cr1, s)
      ∧ s.memRead 0x04 2 = (some s.regs.cr2, s)
      ∧ s.memRead 0x08 2 = (some s.regs.oar1, s)
      ∧ s.memRead 0x0C 2 = (some s.regs.oar2, s)
      ∧ s.memRead 0x10 1 = (some (s.regs.dr.setWidth 16), { s with regs := s.regs.readDR.2 })
      ∧ s.memRead 0x14 2 = (some s.regs.sr1, { s with regs := s.regs.readSR1.2 })
      ∧ s.memRead 0x18 2 = (some s.regs.sr2, { s with regs := s.regs.readSR2.2 })
      ∧ s.memRead 0x1C 2 = (some s.regs.ccr, s)
      ∧ s.memRead 0x20 2 = (some s.regs.trise, s)
      ∧ s.memRead 0x24 2 = (some s.regs.fltr, s)
      ∧ s.memWrite 0x00 2 v = { s with regs := s.regs.writeCR1 v }
      ∧ s.memWrite 0x04 2 v = { s with regs := { s.regs with cr2 := v &&& 0x1F3F#16 } }
      ∧ s.memWrite 0x08 2 v = { s with regs := { s.regs with oar1 := v &&& 0xC3FF#16 } }
      ∧ s.memWrite 0x0C 2 v = { s with regs := { s.regs with oar2 := v &&& 0x00FF#16 } }
      ∧ s.memWrite 0x10 1 v = { s with regs := s.regs.writeDR (v.setWidth 8) }
      ∧ s.memWrite 0x14 2 v = { s with regs := s.regs.writeSR1 v }
      ∧ s.memWrite 0x18 2 v = s
      ∧ s.memWrite 0x1C 2 v = { s with regs := { s.regs with ccr := v } }
      ∧ s.memWrite 0x20 2 v = { s with regs := { s.regs with trise := v } }
      ∧ s.memWrite 0x24 2 v = { s with regs := { s.regs with fltr := v } }
      ∧ s.regs.writeCR2 v = { s.regs with cr2 := v &&& 0x1F3F#16 }
      ∧ s.regs.writeOAR1 v = { s.regs with oar1 := v &&& 0xC3FF#16 }
      ∧ s.regs.writeOAR2 v = { s.regs with oar2 := v &&& 0x00FF#16 }
      ∧ s.platformRead (s.cfg.i2cBase + off) n = s.memRead off n
      ∧ s.platformWrite (s.cfg.i2cBase + off) n v = s.memWrite off n v
      ∧ (off < s.cfg.i2cBase →
        s.platformRead off n = (none, s.refuse .unmapped) ∧ s.platformWrite off n v = s.refuse .unmapped)
      ∧ (s.refused = none → ∀ x, s.refuse x = { s with refused := some x })
      ∧ (∀ y, s.refused = some y → ∀ x, s.refuse x = s)

/-! ## Event handler (40_event_handler.md): effect, frame and completion -/

/-- Rule R104: a read address match clears ADDR, takes the queue's head or `DEFAULT_PACKET`, and enters
`Transmitting(p, 0)` from any stage. Nothing else changes but the armed bits of the snapshot read. -/
def Obligations.EvtAddrReadStartsTransmitting : Prop :=
  ∀ (s : State) (tag : StageTag) (snap : Reg),
    s.evEnabled = true → s.stage.tag = tag → s.regs.tra = true → s.regs.sr1 = snap → snap.getLsbD 1 = true →
      exec (.evtAddrRead tag snap) s = .next { s with
        regs := { s.regs with sr1 := snap &&& 0xFFFD#16, addrArmed := false, stopfArmed := snap.getLsbD 4 }
        txq := if s.cfg.txSource = .queueHeadOrDefault then s.txq.drop 1 else s.txq
        stage := .transmitting
          (if s.cfg.txSource = .queueHeadOrDefault then s.txq.headD (List.replicate s.cfg.packetLen 0x00#8)
           else List.replicate s.cfg.packetLen 0x00#8) 0 }

/-- Rule R105: a write address match clears ADDR and enters `Receiving([])` from any stage; the queue is not touched. -/
def Obligations.EvtAddrWriteStartsReceiving : Prop :=
  ∀ (s : State) (tag : StageTag) (snap : Reg),
    s.evEnabled = true → s.stage.tag = tag → s.regs.tra = false → s.regs.sr1 = snap → snap.getLsbD 1 = true →
      exec (.evtAddrWrite tag snap) s = .next { s with
        regs := { s.regs with sr1 := snap &&& 0xFFFD#16, addrArmed := false, stopfArmed := snap.getLsbD 4 }
        stage := .receiving [] }

/-- Rule R106: the next packet byte, or padding 0x00 from `PACKET_LEN` on, goes to DR; the cursor advances and
saturates; TXE and BTF become 0. -/
def Obligations.EvtTxByteSendsTheNextByte : Prop :=
  ∀ (s : State) (pkt : Packet) (cur : Nat) (tra : Bool) (snap : Reg),
    s.evEnabled = true → s.stage = .transmitting pkt cur → s.regs.tra = tra → s.regs.sr1 = snap →
      snap.getLsbD 1 = false → snap.getLsbD 7 = true →
      exec (.evtTxByte tra snap) s = .next { s with
        regs := { s.regs with
          dr := if cur < s.cfg.packetLen then pkt.getD cur 0x00#8 else 0x00#8
          sr1 := snap &&& 0xFF7B#16
          addrArmed := false
          stopfArmed := snap.getLsbD 4 }
        stage := .transmitting pkt (min (cur + 1) (2 ^ s.cfg.cursorW - 1)) }

/-- Rules R107, R111, R112: a resynchronisation clears a stop by rewriting CR1 unchanged, drains a received byte, and
leaves the stage, the packet in it and every other state as it was. -/
def Obligations.ResynchronisationKeepsTheStage : Prop :=
  ∀ (s : State) (tag : StageTag) (tra : Bool) (snap : Reg),
    s.evEnabled = true → s.stage.tag = tag → s.regs.tra = tra → s.regs.sr1 = snap → snap.getLsbD 1 = false →
      let t : State := { s with
        regs := { s.regs with
          cr1 := if snap.getLsbD 4 then s.regs.cr1 &&& 0xBFFB#16 else s.regs.cr1
          sr1 := if snap.getLsbD 6 then snap &&& 0xFFAB#16 else snap &&& 0xFFEF#16
          addrArmed := false
          stopfArmed := false } }
      (tag = .transmitting → snap.getLsbD 7 = false → exec (.evtTxResync tra snap) s = .next t)
        ∧ (tag = .waiting ∨ tag = .receivedDataReady → exec (.evtResync tag tra snap) s = .next t)

/-- Rule R108: a received byte is read from DR and stored at the end of the buffer, or, at capacity, dropped with one
`RX_OVERFLOW` record. -/
def Obligations.EvtRxByteStoresOrDropsTheByte : Prop :=
  ∀ (s : State) (buf : List Byte) (tra : Bool) (snap : Reg),
    s.evEnabled = true → s.stage = .receiving buf → s.regs.tra = tra → s.regs.sr1 = snap →
      snap.getLsbD 1 = false → snap.getLsbD 6 = true →
      let r : Regs := { s.regs with sr1 := snap &&& 0xFFBB#16, addrArmed := false, stopfArmed := snap.getLsbD 4 }
      (buf.length < s.cfg.rxCap →
          exec (.evtRxByte tra snap) s = .next { s with regs := r, stage := .receiving (buf ++ [s.regs.dr]) })
        ∧ (s.cfg.rxCap ≤ buf.length →
          exec (.evtRxByte tra snap) s = .next { s with
            regs := r
            out := { s.out with diag := s.out.diag ++ [.rxOverflow s.regs.dr] } })

/-- Rules R109, R113, R114, R115: a stop completes the transfer: STOPF and ACK become 0, the stage is
`ReceivedDataReady` of the bytes received or of `DEFAULT_PACKET` with one `LEN_MISMATCH` record, and a registered
waiter becomes runnable. -/
def Obligations.EvtRxStopCompletesTheTransfer : Prop :=
  ∀ (s : State) (buf : List Byte) (tra : Bool) (snap : Reg),
    s.evEnabled = true → s.stage = .receiving buf → s.regs.tra = tra → s.regs.sr1 = snap →
      snap.getLsbD 1 = false → snap.getLsbD 6 = false → snap.getLsbD 4 = true →
      exec (.evtRxStop tra snap) s = .next { s with
        regs := { s.regs with
          cr1 := s.regs.cr1 &&& 0xBBFB#16
          sr1 := snap &&& 0xFFEF#16
          addrArmed := false
          stopfArmed := false }
        stage := .receivedDataReady
          (if buf.length = s.cfg.packetLen then buf else List.replicate s.cfg.packetLen 0x00#8)
        out := { s.out with
          diag := if buf.length = s.cfg.packetLen then s.out.diag else s.out.diag ++ [.lenMismatch buf.length] }
        wake := .empty
        task := if s.wake = .registered then .polling else s.task }

/-- Rule R110: in `Receiving` with no byte and no stop, nothing changes beyond the entry read. -/
def Obligations.EvtRxIdleChangesNothing : Prop :=
  ∀ (s : State) (tra : Bool) (snap : Reg),
    s.evEnabled = true → s.stage.tag = .receiving → s.regs.tra = tra → s.regs.sr1 = snap →
      snap.getLsbD 1 = false → snap.getLsbD 6 = false → snap.getLsbD 4 = false →
      exec (.evtRxIdle tra snap) s = .next { s with regs := { s.regs with addrArmed := false, stopfArmed := false } }

/-- Rule R117: what no EV arm does, and what else it leaves alone. -/
def Obligations.EventHandlerFrame : Prop :=
  ∀ (i : Instr) (s t : State), i.isEv = true → exec i s = .next t →
    (t.regs.ack = true → s.regs.ack = true)
      ∧ (t.regs.ack ≠ s.regs.ack → ∃ tra e, i = .evtRxStop tra e)
      ∧ t.regs.cr1 &&& 0xBBFB#16 = s.regs.cr1 &&& 0xBBFB#16
      ∧ faultByte t.regs.sr1 = faultByte s.regs.sr1
      ∧ t.regs.sr1 &&& s.regs.sr1 = t.regs.sr1
      ∧ (t.txq = s.txq ∨ (t.txq = s.txq.drop 1 ∧ ∃ tag e, i = .evtAddrRead tag e))
      ∧ (t.wake = s.wake ∨ t.wake = .empty)
      ∧ (t.wake = s.wake → t.task = s.task)
      ∧ (t.regs.dr ≠ s.regs.dr → ∃ tra e, i = .evtTxByte tra e)
      ∧ t.regs.cr2 = s.regs.cr2 ∧ t.regs.oar1 = s.regs.oar1 ∧ t.regs.oar2 = s.regs.oar2
      ∧ t.regs.sr2 = s.regs.sr2 ∧ t.regs.ccr = s.regs.ccr ∧ t.regs.trise = s.regs.trise
      ∧ t.regs.fltr = s.regs.fltr ∧ t.busPhase = s.busPhase ∧ t.cfg = s.cfg ∧ t.life = s.life
      ∧ t.clkEn = s.clkEn ∧ t.evEn = s.evEn ∧ t.erEn = s.erEn ∧ t.out.hostRx = s.out.hostRx
      ∧ t.out.delivered = s.out.delivered ∧ t.out.enqResults = s.out.enqResults ∧ t.fault = s.fault
      ∧ t.refused = s.refused ∧ t.run = s.run

/-! ## Error handler (41_error_handler.md) -/

/-- Rule R133: a NACK while transmitting clears AF alone and returns to `Waiting`; nothing is logged, no CR1 bit
changes, and the rest of the packet is discarded. -/
def Obligations.ErrNackEndReturnsToWaiting : Prop :=
  ∀ (s : State) (tra : Bool) (snap : Reg),
    s.erEnabled = true → s.stage.tag = .transmitting → s.regs.tra = tra → s.regs.sr1 = snap →
      snap.getLsbD 10 = true →
      exec (.errNackEnd tra snap) s = .next { s with
        regs := { s.regs with
          sr1 := snap &&& 0xFBFF#16
          addrArmed := snap.getLsbD 1
          stopfArmed := snap.getLsbD 4 }
        stage := .waiting }

/-- Rules R134 to R137, R139: every other error step logs one `FAULT` record with every fault flag of the snapshot,
re-enables ACK, clears every fault flag, ADDR, STOPF and RXNE (and BTF with RXNE), and forces `Waiting`; the queue,
the wake slot and the task are unchanged. -/
def Obligations.ErrorRecoveryForcesWaiting : Prop :=
  ∀ (s : State) (tag : StageTag) (tra : Bool) (snap : Reg),
    s.erEnabled = true → s.stage.tag = tag → s.regs.tra = tra → s.regs.sr1 = snap →
      let t : State := { s with
        regs := { s.regs with
          cr1 := (s.regs.cr1 ||| 0x0400#16) &&& 0xBFFB#16
          sr1 := if snap.getLsbD 6 then snap &&& 0x20A9#16 else snap &&& 0x20AD#16
          addrArmed := false
          stopfArmed := false }
        stage := .waiting
        out := { s.out with diag := s.out.diag ++ [.fault (snap.extractLsb' 8 8)] } }
      (tag = .transmitting → snap.getLsbD 10 = false → exec (.errRecoverTx tra snap) s = .next t)
        ∧ (tag = .receiving → exec (.errRecoverRx tra snap) s = .next t)
        ∧ (tag = .waiting ∨ tag = .receivedDataReady → exec (.errRecoverIdle tag tra snap) s = .next t)

/-- Rule R138: what no ER step does, and what else it leaves alone. -/
def Obligations.ErrorHandlerFrame : Prop :=
  ∀ (i : Instr) (s t : State), i.isEr = true → exec i s = .next t →
    (s.regs.ack = true → t.regs.ack = true) ∧ t.wake = s.wake ∧ t.task = s.task ∧ t.txq = s.txq
      ∧ t.regs.cr2 = s.regs.cr2 ∧ t.regs.oar1 = s.regs.oar1 ∧ t.regs.oar2 = s.regs.oar2
      ∧ t.regs.dr = s.regs.dr ∧ t.regs.sr2 = s.regs.sr2 ∧ t.regs.ccr = s.regs.ccr
      ∧ t.regs.trise = s.regs.trise ∧ t.regs.fltr = s.regs.fltr
      ∧ t.regs.cr1 &&& 0xBBFB#16 = s.regs.cr1 &&& 0xBBFB#16
      ∧ t.regs.sr1 &&& s.regs.sr1 = t.regs.sr1 ∧ t.busPhase = s.busPhase ∧ t.cfg = s.cfg
      ∧ t.life = s.life ∧ t.clkEn = s.clkEn ∧ t.evEn = s.evEn ∧ t.erEn = s.erEn
      ∧ t.out.hostRx = s.out.hostRx ∧ t.out.delivered = s.out.delivered
      ∧ t.out.enqResults = s.out.enqResults ∧ t.fault = s.fault ∧ t.refused = s.refused ∧ t.run = s.run

/-- Rule R140: after any error step that is taken the stage is `Waiting`; after a recovery ACK is 1, every fault flag,
ADDR, STOPF and RXNE are 0, SR1 is 0x0000 or 0x0080, and the armed bits are 0. The premises are two invariants of the
model: reserved bits read 0 and SB, ADD10 and BTF are never set. -/
def Obligations.AfterAnErrorStep : Prop :=
  ∀ (i : Instr) (s t : State), i.isEr = true → s.erEnabled = true → s.regs.ReservedZero → s.NeverSetFlags →
    i.fields = Fields.handler 0b01#2 s.stage.tag s.regs.tra s.regs.sr1 → i.wellFormed s.cfg.packetLen = true →
      exec i s = .next t →
        t.stage = .waiting
          ∧ ((∃ tra e, i = .errNackEnd tra e) → t.regs.flag Sr1.af = false)
          ∧ ((¬∃ tra e, i = .errNackEnd tra e) →
            t.regs.ack = true ∧ (t.regs.sr1 = 0x0000#16 ∨ t.regs.sr1 = 0x0080#16)
              ∧ t.regs.addrArmed = false ∧ t.regs.stopfArmed = false)

/-! ## Task port (42_driver_handle.md) -/

/-- Rule R152: `TK_INIT` from task context constructs the driver: the registers configured, the stage, queue, slot and
task initial, the enables set. CCR, TRISE and FLTR are any value (free), so they are left open here. -/
def Obligations.TkInitConstructsTheDriver : Prop :=
  ∀ (s : State) (a : BitVec 7), s.marked = false → s.life = .unconstructed →
    ∃ (ccr trise fltr : Reg) (free : Nat),
      exec (.tkInit false a) s = .next { s with
        life := .active
        stage := .waiting
        txq := []
        wake := .empty
        task := .idle
        clkEn := true
        evEn := true
        erEn := true
        regs := { s.regs with
          cr1 := 0x0401#16
          cr2 := 0x0700#16 ||| s.cfg.cfgFreq.setWidth 16
          oar1 := 0x4000#16 ||| (a.setWidth 16 <<< 1)
          oar2 := 0x0000#16
          ccr := ccr
          trise := trise
          fltr := fltr
          sr1 := if s.regs.stopfArmed then s.regs.sr1 &&& 0xFFEF#16 else s.regs.sr1
          stopfArmed := false }
        run := { s.run with free := free } }

/-- Rule R242: `TK_INIT(a)` from power-on gives the clean active state `CleanActive(a)`, for every admitted or
unadmitted parameter set, with CCR, TRISE and FLTR any value. -/
def Obligations.InitFromPowerOnIsCleanActive : Prop :=
  ∀ (c : Params) (r : RunInput) (a : BitVec 7),
    ∃ (ccr trise fltr : Reg) (free : Nat),
      exec (.tkInit false a) { State.reset with cfg := c, run := r }
        = .next (State.cleanActive c a ccr trise fltr { r with free := free })

/-- Rules R151, R152, R205, R207: the lifecycle faults, each checked in order and each changing nothing but the mark. -/
def Obligations.LifecycleFaultsSetOnlyTheMark : Prop :=
  ∀ (s : State), s.marked = false →
    (∀ a, exec (.tkInit true a) s = .next { s with fault := some .panicInitInIsr })
      ∧ (∀ a, s.life = .released → exec (.tkInit false a) s = .next { s with fault := some .useAfterRelease })
      ∧ (∀ a, s.life = .active → exec (.tkInit false a) s = .next { s with fault := some .reinit })
      ∧ ∀ i, (i = .tkPoll ∨ i = .tkRegister ∨ i = .tkTeardown ∨ ∃ p, i = .tkEnqueue p) →
        (s.life = .unconstructed → exec i s = .next { s with fault := some .notConstructed })
          ∧ (s.life = .released → exec i s = .next { s with fault := some .useAfterRelease })

/-- Rule R153: an enqueue pushes the packet at the tail and records OK, or, when the queue is full, records the packet
as rejected and leaves the queue; it accesses no register and may be issued in any task mode. -/
def Obligations.TkEnqueuePushesOrRejects : Prop :=
  ∀ (s : State) (p : Packet), s.marked = false → s.life = .active →
    (s.txq.length < s.cfg.txqCap →
        exec (.tkEnqueue p) s = .next { s with
          txq := s.txq ++ [p]
          out := { s.out with enqResults := s.out.enqResults ++ [.ok] } })
      ∧ (s.cfg.txqCap ≤ s.txq.length →
        exec (.tkEnqueue p) s = .next { s with
          out := { s.out with enqResults := s.out.enqResults ++ [.rejected p] } })

/-- Rule R154: a poll delivers a ready packet, returns the stage to `Waiting` and re-enables ACK; otherwise it registers
the caller, at once or in a following step. -/
def Obligations.TkPollDeliversOrRegisters : Prop :=
  ∀ (s : State), s.marked = false → s.life = .active → (s.task = .idle ∨ s.task = .polling) →
    (∀ p, s.stage = .receivedDataReady p →
        exec .tkPoll s = .next { s with
          out := { s.out with delivered := s.out.delivered ++ [p] }
          stage := .waiting
          regs := { s.regs with
            cr1 := (s.regs.cr1 ||| 0x0400#16) &&& 0xBFFB#16
            sr1 := if s.regs.stopfArmed then s.regs.sr1 &&& 0xFFEF#16 else s.regs.sr1
            stopfArmed := false }
          task := .idle })
      ∧ (s.stage.tag ≠ .receivedDataReady → s.cfg.pollRegisterAtomic = true →
        exec .tkPoll s = .next { s with wake := .registered, task := .suspended })
      ∧ (s.stage.tag ≠ .receivedDataReady → s.cfg.pollRegisterAtomic = false →
        exec .tkPoll s = .next { s with task := .registering })

/-- Rule R155: the registration overwrites the wake slot and suspends the task. -/
def Obligations.TkRegisterSuspendsTheTask : Prop :=
  ∀ (s : State), s.marked = false → s.life = .active → s.task = .registering →
    exec .tkRegister s = .next { s with wake := .registered, task := .suspended }

/-- Rules R156, R245: teardown clears the enables, discards the queue, the stage and an outstanding `receive()`, ends
the life, and keeps the output records, the hidden bits, the bus phase and the marks. The registers are unspecified
afterwards (rule R49), so they are left open here. -/
def Obligations.TkTeardownReleasesTheDriver : Prop :=
  ∀ (s : State), s.marked = false → s.life = .active →
    ∃ (r : Regs) (free : Nat),
      r.addrArmed = s.regs.addrArmed ∧ r.stopfArmed = s.regs.stopfArmed
        ∧ exec .tkTeardown s = .next { s with
          evEn := false
          erEn := false
          clkEn := false
          txq := []
          stage := .waiting
          wake := .empty
          task := .idle
          life := .released
          regs := r
          run := { s.run with free := free } }

/-- Rule R159: a packet reaches `delivered` only by a poll of a ready stage, one at a time, and the stage is then
`Waiting`, so the same packet is not delivered again. -/
def Obligations.EachReadyPacketIsDeliveredAtMostOnce : Prop :=
  ∀ (s t : State), step s = .next t →
    t.out.delivered = s.out.delivered
      ∨ ∃ p, s.stage = .receivedDataReady p ∧ t.out.delivered = s.out.delivered ++ [p] ∧ t.stage = .waiting
          ∧ s.nextInstr = some .tkPoll

/-! ## Bus agent (43_bus_agent.md) -/

/-- Rules R177, R36: an address match sets ADDR and BUSY, latches the direction, and sets TXE exactly for a host read.
That a repeated start to a write clears TRA, against rule R182's words, is the model's choice between the rules
(notes/assumptions/27.md). -/
def Obligations.BusAddrRaisesTheAddressMatch : Prop :=
  ∀ (s : State) (rw : Bool),
    s.busEnabled = true → s.regs.ack = true → s.regs.flag Sr1.addr = false →
      exec (.busAddr rw) s = .next { s with
        regs := { s.regs with
          sr1 := if rw then s.regs.sr1 ||| 0x0082#16 else (s.regs.sr1 &&& 0xFF7F#16) ||| 0x0002#16
          sr2 := if rw then s.regs.sr2 ||| 0x0006#16 else (s.regs.sr2 &&& 0xFFFB#16) ||| 0x0002#16 }
        busPhase := if rw then .tx else .rx }

/-- Rule R178: a host write puts its byte into DR and sets RXNE. -/
def Obligations.BusWriteFillsTheDataRegister : Prop :=
  ∀ (s : State) (b : Byte),
    s.busEnabled = true → s.busPhase = .rx → s.regs.flag Sr1.addr = false → s.regs.flag Sr1.rxne = false →
      s.regs.ack = true →
      exec (.busWrite b) s = .next { s with regs := { s.regs with dr := b, sr1 := s.regs.sr1 ||| 0x0040#16 } }

/-- Rule R179: a host read takes the byte in DR; an acknowledge sets TXE, a no-acknowledge sets AF, ends the host's
reading and leaves TXE to a draw (either value may result). That the draw is the one the schedule names, where it names
one (rule R97), and what records it, is the model's choice (notes/assumptions/5.md). -/
def Obligations.BusReadTakesTheDataRegister : Prop :=
  ∀ (s : State),
    s.busEnabled = true → s.busPhase = .tx → s.regs.flag Sr1.addr = false → s.regs.flag Sr1.txe = false →
      exec (.busRead true) s = .next { s with
        out := { s.out with hostRx := s.out.hostRx ++ [s.regs.dr] }
        regs := { s.regs with sr1 := s.regs.sr1 ||| 0x0080#16 } }
      ∧ ∃ (draw : Bool) (run : RunInput),
        exec (.busRead false) s = .next { s with
          out := { s.out with hostRx := s.out.hostRx ++ [s.regs.dr] }
          regs := { s.regs with sr1 := (s.regs.sr1 ||| 0x0400#16) ||| (if draw then 0x0080#16 else 0x0000#16) }
          busPhase := .txNacked
          run := run }
        ∧ run.prog = s.run.prog ∧ run.sched = s.run.sched ∧ (∀ b, s.run.draw = some b → draw = b)

/-- Rule R180: a stop sets STOPF (after a NACK by a draw, free; a STOPF that was 1 stays 1), clears TXE, TRA and BUSY,
and ends the transfer. That a pending STOPF survives a draw of 0 is the model's reading of the rule
(notes/assumptions/9.md); that the draw is the one the schedule names, where it names one (rule R97), is its choice
(notes/assumptions/5.md). -/
def Obligations.BusStopEndsTheTransfer : Prop :=
  ∀ (s : State), s.busEnabled = true → s.regs.flag Sr1.addr = false →
    (s.busPhase = .rx ∨ s.busPhase = .tx →
        exec .busStop s = .next { s with
          regs := { s.regs with
            sr1 := (s.regs.sr1 ||| 0x0010#16) &&& 0xFF7F#16
            sr2 := s.regs.sr2 &&& 0xFFF9#16 }
          busPhase := .idle })
      ∧ (s.busPhase = .txNacked →
        ∃ (draw : Bool) (run : RunInput),
          exec .busStop s = .next { s with
            regs := { s.regs with
              sr1 := (s.regs.sr1 ||| (if draw then 0x0010#16 else 0x0000#16)) &&& 0xFF7F#16
              sr2 := s.regs.sr2 &&& 0xFFF9#16 }
            busPhase := .idle
            run := run }
          ∧ run.prog = s.run.prog ∧ run.sched = s.run.sched ∧ (∀ b, s.run.draw = some b → draw = b))

/-- Rule R181: a bus fault sets the named flags, clears none, and changes nothing else, in any phase. -/
def Obligations.BusFaultRaisesTheNamedFlags : Prop :=
  ∀ (s : State) (f : Byte), s.busEnabled = true → f.getLsbD 5 = false →
    exec (.busFault f) s = .next { s with regs := { s.regs with sr1 := s.regs.sr1 ||| (f.setWidth 16 <<< 8) } }

/-- Rule R182: what no BUS step does, and what else it leaves alone. -/
def Obligations.BusAgentFrame : Prop :=
  ∀ (i : Instr) (s t : State), i.isBus = true → exec i s = .next t →
    t.regs.sr1 &&& 0x000D#16 = s.regs.sr1 &&& 0x000D#16
      ∧ t.regs.sr2 &&& ~~~0x0006#16 = s.regs.sr2 &&& ~~~0x0006#16
      ∧ s.regs.sr1 &&& t.regs.sr1 &&& 0xFF7F#16 = s.regs.sr1 &&& 0xFF7F#16
      ∧ (t.regs.dr ≠ s.regs.dr → ∃ b, i = .busWrite b)
      ∧ (t.out.hostRx ≠ s.out.hostRx → ∃ ack, i = .busRead ack)
      ∧ t.regs.cr1 = s.regs.cr1 ∧ t.regs.cr2 = s.regs.cr2 ∧ t.regs.oar1 = s.regs.oar1
      ∧ t.regs.oar2 = s.regs.oar2 ∧ t.regs.ccr = s.regs.ccr ∧ t.regs.trise = s.regs.trise
      ∧ t.regs.fltr = s.regs.fltr ∧ t.regs.addrArmed = s.regs.addrArmed
      ∧ t.regs.stopfArmed = s.regs.stopfArmed ∧ t.stage = s.stage ∧ t.txq = s.txq ∧ t.wake = s.wake
      ∧ t.task = s.task ∧ t.life = s.life ∧ t.out.delivered = s.out.delivered
      ∧ t.out.enqResults = s.out.enqResults ∧ t.out.diag = s.out.diag ∧ t.cfg = s.cfg
      ∧ t.clkEn = s.clkEn ∧ t.evEn = s.evEn ∧ t.erEn = s.erEn ∧ t.fault = s.fault ∧ t.refused = s.refused

/-! ## Whole-machine rules -/

/-- Rule R43: no step shortens an output record; each is extended at its end or unchanged. -/
def Obligations.OutputRecordsAreNeverShortened : Prop :=
  ∀ (s t : State), step s = .next t →
    s.out.hostRx <+: t.out.hostRx ∧ s.out.delivered <+: t.out.delivered
      ∧ s.out.enqResults <+: t.out.enqResults ∧ s.out.diag <+: t.out.diag

/-- Rule R44: the marks are sticky, no step clears or replaces one, and only a TK step raises a fault (rule R205). -/
def Obligations.MarksAreSticky : Prop :=
  ∀ (s t : State), step s = .next t →
    (∀ f, s.fault = some f → t.fault = some f) ∧ (∀ x, s.refused = some x → t.refused = some x)
      ∧ (t.fault ≠ s.fault → ∃ i, s.nextInstr = some i ∧ i.isTk = true)

/-- Rules R23, R27, R28: only the steps these rules name write the stage, the queue and the wake slot; the task changes
the stage only from `ReceivedDataReady` to `Waiting`, but for construction and teardown. -/
def Obligations.OnlyTheNamedStepsWriteTheEngineState : Prop :=
  ∀ (i : Instr) (s t : State), exec i s = .next t →
    (t.stage ≠ s.stage →
        i.isEv = true ∨ i.isEr = true ∨ (∃ c a, i = .tkInit c a) ∨ i = .tkTeardown
          ∨ (i = .tkPoll ∧ s.stage.tag = .receivedDataReady ∧ t.stage = .waiting))
      ∧ (t.txq ≠ s.txq →
        (∃ c a, i = .tkInit c a) ∨ i = .tkTeardown ∨ (∃ p, i = .tkEnqueue p ∧ t.txq = s.txq ++ [p])
          ∨ ∃ tag e, i = .evtAddrRead tag e ∧ ∃ p, s.txq = p :: t.txq)
      ∧ (t.wake ≠ s.wake →
        (∃ c a, i = .tkInit c a) ∨ i = .tkTeardown ∨ (i = .tkPoll ∧ t.wake = .registered)
          ∨ (i = .tkRegister ∧ t.wake = .registered) ∨ ∃ tra e, i = .evtRxStop tra e ∧ t.wake = .empty)

/-- Rules R114, R138, R157: a suspended task becomes runnable only by the stop that completes a receive, never by an
error step or a poll; construction and teardown aside. -/
def Obligations.SuspendedTaskIsWokenOnlyByAStop : Prop :=
  ∀ (s t : State), step s = .next t → s.task = .suspended → t.task ≠ .suspended →
    (t.task = .polling ∧ s.wake = .registered ∧ t.wake = .empty ∧ ∃ tra e, s.nextInstr = some (.evtRxStop tra e))
      ∨ s.nextInstr = some .tkTeardown ∨ ∃ c a, s.nextInstr = some (.tkInit c a)

/-- The parameters are fixed for a run (rule R8): no step changes them. -/
def Obligations.NoStepChangesTheParameters : Prop :=
  ∀ (s t : State), step s = .next t → t.cfg = s.cfg

/-! ## Invariants that every step keeps -/

/-- Rule R31: reserved register bits read 0, and no step sets one. After `TK_TEARDOWN`, where rule R49 leaves every
register at any value, that the free values have their reserved bits 0 is the model's choice
(notes/assumptions/7.md). -/
def Obligations.ReservedBitsStayZero : Prop :=
  ∀ (s t : State), s.regs.ReservedZero → step s = .next t → t.regs.ReservedZero

/-- Rules R13, R24 to R27: the queue, the stage's payload and every packet stay within their bounds. -/
def Obligations.QueueAndStageStayBounded : Prop :=
  ∀ (s t : State), s.Bounded → step s = .next t → t.Bounded

/-- Rules R32 to R34, R40: the control registers and the enables keep their values while ACTIVE, and every enable is 0
otherwise. -/
def Obligations.ConfigurationIsKept : Prop :=
  ∀ (s t : State), s.ActiveConfigured → s.DisabledOutside → step s = .next t →
    t.ActiveConfigured ∧ t.DisabledOutside

/-- Rule R50: while ACTIVE, ACK is 0 if and only if the stage is `ReceivedDataReady`. -/
def Obligations.AckIsWithheldExactlyWhenReady : Prop :=
  ∀ (s t : State), s.AckMatchesStage → step s = .next t → t.AckMatchesStage

/-- Rules R28, R29: while ACTIVE, a waiter is registered exactly while the task is SUSPENDED, and with the atomic
registration the task is never REGISTERING. -/
def Obligations.WaiterAndTaskAgree : Prop :=
  ∀ (s t : State), s.WaiterAgrees → step s = .next t → t.WaiterAgrees

/-- Rules R241, R242: before construction no step changes a register or the bus phase. -/
def Obligations.NothingMovesBeforeConstruction : Prop :=
  ∀ (s t : State), s.UntouchedBeforeInit → step s = .next t → t.UntouchedBeforeInit

/-- Rules R182, R254: SB, ADD10, BTF and the unused SR2 bits stay 0 while ACTIVE, and the address match, the bus phase
and TXE agree with the stage. That a pending address match agrees with the phase rests on rules R177 and R36, by which a
repeated start to a write clears TRA, against rule R182's words: the model's choice between the rules
(notes/assumptions/27.md). -/
def Obligations.TransferFlagsStayConsistent : Prop :=
  ∀ (s t : State), s.NeverSetFlags → s.TransferAgrees → s.UntouchedBeforeInit → step s = .next t →
    t.NeverSetFlags ∧ t.TransferAgrees

/-- Rule R254: under the bus agent of this model `EVT_RX_IDLE` is unreachable: in a state that meets the two
invariants above the EV step is not enabled in `Receiving` with ADDR, RXNE and STOPF all 0. -/
def Obligations.EvtRxIdleIsUnreachable : Prop :=
  ∀ (s : State), s.NeverSetFlags → s.TransferAgrees → s.stage.tag = .receiving →
    s.regs.flag Sr1.addr = false → s.regs.flag Sr1.rxne = false → s.regs.flag Sr1.stopf = false →
      s.evEnabled = false

/-- Rule R256: after the lost wake-up (a ready packet, ACK = 0, the waiter registered and the task suspended, no
pending address match and no fault flag) no step but a bus fault or a teardown leaves the deadlock, and nothing is
delivered. The phase is not TX: a ready packet is never held during a host read (rule R183). -/
def Obligations.LostWakeupIsADeadlock : Prop :=
  ∀ (s t : State) (p : Packet),
    let Dead : State → Prop := fun u =>
      u.life = .active ∧ u.stage = .receivedDataReady p ∧ u.regs.ack = false ∧ u.wake = .registered
        ∧ u.task = .suspended ∧ u.regs.flag Sr1.addr = false ∧ faultByte u.regs.sr1 = 0#8 ∧ u.busPhase ≠ .tx
    Dead s → step s = .next t → (∀ f, s.nextInstr ≠ some (.busFault f)) → s.nextInstr ≠ some .tkTeardown →
      Dead t ∧ t.out.delivered = s.out.delivered

/-- Rules R48, R241: power-on meets every invariant above; the lifecycle is UNCONSTRUCTED, TRISE is 0x0002 and every
other register 0, and every enable is 0. The parameters are rule R8's defaults. -/
def Obligations.PowerOnMeetsTheInvariants : Prop :=
  State.reset.regs.ReservedZero ∧ State.reset.Bounded ∧ State.reset.ActiveConfigured
    ∧ State.reset.DisabledOutside ∧ State.reset.AckMatchesStage ∧ State.reset.WaiterAgrees
    ∧ State.reset.UntouchedBeforeInit ∧ State.reset.NeverSetFlags ∧ State.reset.TransferAgrees
    ∧ State.reset.cfg.admitted = true ∧ State.reset.life = .unconstructed
    ∧ State.reset.regs = { cr1 := 0#16, cr2 := 0#16, oar1 := 0#16, oar2 := 0#16, dr := 0#8, sr1 := 0#16, sr2 := 0#16,
                           ccr := 0#16, trise := 0x0002#16, fltr := 0#16, addrArmed := false, stopfArmed := false }
    ∧ State.reset.clkEn = false ∧ State.reset.evEn = false ∧ State.reset.erEn = false
    ∧ State.reset.busPhase = .idle
    ∧ State.reset.out = { hostRx := [], delivered := [], enqResults := [], diag := [] }
    ∧ State.reset.fault = none ∧ State.reset.refused = none
end

