-- ==== Sys2Proof/Laws/Decode.lean ====
section
/-! SUPPORT. Laws of the decode word: its fields and the word determine each other, and so do a stage and its tag. -/

namespace Sys2Proof

theorem Fields.ofWord_toWord (f : Fields) : Fields.ofWord f.toWord = f := by
  obtain ⟨a, b, c, d, e, g⟩ := f
  simp only [Fields.ofWord, Fields.toWord, Fields.mk.injEq]
  refine ⟨?_, ?_, ?_, ?_, ?_, ?_⟩ <;>
    (apply BitVec.eq_of_getLsbD_eq; intro i hi
     simp only [BitVec.getLsbD_extractLsb', BitVec.getLsbD_append]
     interval_cases i <;> simp)

theorem Fields.toWord_ofWord (w : Word) : (Fields.ofWord w).toWord = w := by
  simp only [Fields.ofWord, Fields.toWord]
  apply BitVec.eq_of_getLsbD_eq; intro i hi
  simp only [BitVec.getLsbD_extractLsb', BitVec.getLsbD_append]
  interval_cases i <;> simp

@[simp] theorem StageTag.ofBits_bits (t : StageTag) : StageTag.ofBits t.bits = t := by
  cases t <;> decide

theorem StageTag.bits_ofBits (b : BitVec 2) : (StageTag.ofBits b).bits = b := by
  revert b; decide

/-- The word of an instruction decodes by the instruction's fields. -/
theorem decode_encode_fields (i : Instr) (p : Packet) : decode (encode i) p = decodeFields i.fields p := by
  simp only [decode, encode, Fields.ofWord_toWord]

end Sys2Proof
end

