-- ==== Sys2Proof/Laws/Flags.lean ====
section
/-! SUPPORT. Laws of the flag helper: what `setFlag` does to each bit, and the masks it stands for. -/

namespace Sys2Proof.Machine

theorem setFlag_getLsbD (v : Reg) (i j : Nat) (b : Bool) (hi : i < 16) :
    (setFlag v i b).getLsbD j = if j = i then b else v.getLsbD j := by
  unfold setFlag
  cases b
  · by_cases hj : j = i
    · subst hj; simp [hi]
    · have hi' : ¬(i = j) := fun h => hj h.symm
      simp only [Bool.false_eq_true, ↓reduceIte, BitVec.getLsbD_and, BitVec.getLsbD_not, BitVec.getLsbD_twoPow, hj, hi',
        decide_false, Bool.and_false, Bool.not_false, Bool.and_true]
      by_cases h16 : j < 16
      · simp [h16]
      · simp [h16, BitVec.getLsbD_of_ge v j (by omega)]
  · by_cases hj : j = i
    · subst hj; simp [hi]
    · have hi' : ¬(i = j) := fun h => hj h.symm
      simp [hj, hi']

@[simp] theorem setFlag_addr_false (v : Reg) : setFlag v 1 false = v &&& 0xFFFD#16 := rfl
@[simp] theorem setFlag_btf_false (v : Reg) : setFlag v 2 false = v &&& 0xFFFB#16 := rfl
@[simp] theorem setFlag_stopf_false (v : Reg) : setFlag v 4 false = v &&& 0xFFEF#16 := rfl
@[simp] theorem setFlag_rxne_false (v : Reg) : setFlag v 6 false = v &&& 0xFFBF#16 := rfl
@[simp] theorem setFlag_txe_false (v : Reg) : setFlag v 7 false = v &&& 0xFF7F#16 := rfl
@[simp] theorem setFlag_addr_true (v : Reg) : setFlag v 1 true = v ||| 0x0002#16 := rfl
@[simp] theorem setFlag_tra_true (v : Reg) : setFlag v 2 true = v ||| 0x0004#16 := rfl
@[simp] theorem setFlag_stopf_true (v : Reg) : setFlag v 4 true = v ||| 0x0010#16 := rfl
@[simp] theorem setFlag_rxne_true (v : Reg) : setFlag v 6 true = v ||| 0x0040#16 := rfl
@[simp] theorem setFlag_txe_true (v : Reg) : setFlag v 7 true = v ||| 0x0080#16 := rfl
@[simp] theorem setFlag_af_true (v : Reg) : setFlag v 10 true = v ||| 0x0400#16 := rfl

end Sys2Proof.Machine
end

