-- ==== Sys2Proof/Laws/Ops.lean ====
section
/-! SUPPORT. One spec lemma per shared operation: everything each can do, for later proofs to cite. -/

namespace Sys2Proof.Machine

/-- Clearing a bit that is 0 changes nothing. -/
theorem and_mask_of_bit_false (v : Reg) (i : Nat) (h : v.getLsbD i = false) : v &&& ~~~(BitVec.twoPow 16 i) = v := by
  apply BitVec.eq_of_getLsbD_eq
  intro j hj
  by_cases hji : j = i
  · subst hji; simp only [BitVec.getLsbD_and, h, Bool.false_and]
  · have : ¬(i = j) := fun e => hji e.symm
    simp only [BitVec.getLsbD_and, BitVec.getLsbD_not, BitVec.getLsbD_twoPow, hj, this, decide_true, decide_false,
      Bool.and_false, Bool.not_false, Bool.and_true]

theorem and_FFFD_of_addr (v : Reg) (h : v.getLsbD 1 = false) : v &&& 0xFFFD#16 = v := and_mask_of_bit_false v 1 h
theorem and_FFEF_of_stopf (v : Reg) (h : v.getLsbD 4 = false) : v &&& 0xFFEF#16 = v := and_mask_of_bit_false v 4 h
theorem and_FFBF_of_rxne (v : Reg) (h : v.getLsbD 6 = false) : v &&& 0xFFBF#16 = v := and_mask_of_bit_false v 6 h

/-- In an unmarked state a refusal sets its reason and nothing else (rule R206). -/
theorem State.refuse_unmarked {s : State} (h : s.marked = false) (x : RefuseReason) :
    s.refuse x = { s with refused := some x } := by
  have hr : s.refused = none := by simp_all [State.marked]
  simp [State.refuse, hr]

/-! ### The access primitives -/

theorem Regs.readSR1_eq (r : Regs) :
    r.readSR1 = (r.sr1, { r with addrArmed := r.sr1.getLsbD 1, stopfArmed := r.sr1.getLsbD 4 }) := rfl

theorem Regs.readSR2_eq (r : Regs) :
    r.readSR2.2 = if r.addrArmed then { r with sr1 := r.sr1 &&& 0xFFFD#16, addrArmed := false } else r := rfl

theorem Regs.readDR_eq (r : Regs) : r.readDR = (r.dr, { r with sr1 := r.sr1 &&& 0xFFBB#16 }) := by
  simp [Regs.readDR, BitVec.and_assoc]

theorem Regs.writeDR_eq (r : Regs) (b : Byte) : r.writeDR b = { r with dr := b, sr1 := r.sr1 &&& 0xFF7B#16 } := by
  simp [Regs.writeDR, BitVec.and_assoc]

theorem Regs.writeCR1_eq (r : Regs) (v : Reg) :
    r.writeCR1 v = { r with
      cr1 := v &&& 0xBFFB#16
      sr1 := if r.stopfArmed then r.sr1 &&& 0xFFEF#16 else r.sr1
      stopfArmed := false } := by
  obtain ⟨_, _, _, _, _, _, _, _, _, _, _, a⟩ := r
  cases a <;> rfl

theorem Regs.writeSR1_eq (r : Regs) (v : Reg) : r.writeSR1 v = { r with sr1 := r.sr1 &&& (v ||| 0x20FF#16) } := rfl

/-! ### The procedures of the handlers -/

/-- The registers after the entry read and a resynchronisation (rules R102, R112): where ADDR is not set, STOPF ends 0,
RXNE and BTF end 0 if a byte waited, and both armed bits are 0. -/
theorem Regs.resync_after_entry (r : Regs) (h1 : r.sr1.getLsbD 1 = false) :
    r.readSR1.2.resync r.sr1 = { r with
      cr1 := if r.sr1.getLsbD 4 then r.cr1 &&& 0xBFFB#16 else r.cr1
      sr1 := if r.sr1.getLsbD 6 then r.sr1 &&& 0xFFAB#16 else r.sr1 &&& 0xFFEF#16
      addrArmed := false
      stopfArmed := false } := by
  simp only [Regs.resync, Regs.touchCR1, Regs.readSR1_eq, Regs.writeCR1_eq, Regs.readDR_eq, Sr1.stopf, Sr1.rxne, h1]
  cases h4 : r.sr1.getLsbD 4 <;> cases h6 : r.sr1.getLsbD 6 <;>
    simp only [Bool.false_eq_true, ↓reduceIte, BitVec.and_assoc]
  · simp only [and_FFEF_of_stopf _ h4]
  · conv_lhs => rw [← and_FFEF_of_stopf _ h4]
    simp only [BitVec.and_assoc]; rfl
  · rfl

/-- ACK re-enabled and the status register cleared after the entry read (rules R68, R69, R134). -/
theorem Regs.setAck_writeSR1_after_entry (r : Regs) :
    r.readSR1.2.setAck.writeSR1 0x0000#16 = { r with
      cr1 := (r.cr1 ||| 0x0400#16) &&& 0xBFFB#16
      sr1 := r.sr1 &&& 0x20EF#16
      addrArmed := r.sr1.getLsbD 1
      stopfArmed := false } := by
  simp only [Regs.setAck, Regs.readSR1_eq, Regs.writeCR1_eq, Regs.writeSR1_eq]
  cases h4 : r.sr1.getLsbD 4 <;> simp only [Bool.false_eq_true, ↓reduceIte, BitVec.and_assoc]
  · congr 1
    conv_lhs => rw [← and_FFEF_of_stopf _ h4]
    simp only [BitVec.and_assoc]; rfl
  · rfl

/-- The re-check where STOPF is 0: ADDR and RXNE end 0 (and BTF with RXNE), and both armed bits are 0. -/
theorem Regs.recheck_of_no_stop (r : Regs) (h4 : r.sr1.getLsbD 4 = false) :
    r.recheck = { r with
      sr1 := if r.sr1.getLsbD 6 then r.sr1 &&& 0xFFB9#16 else r.sr1 &&& 0xFFFD#16
      addrArmed := false
      stopfArmed := false } := by
  simp only [Regs.recheck, Regs.readSR1_eq, Regs.readSR2_eq, Regs.readDR_eq, Sr1.addr, Sr1.stopf, Sr1.rxne, h4]
  cases h1 : r.sr1.getLsbD 1 <;> cases h6 : r.sr1.getLsbD 6 <;>
    simp only [Bool.false_eq_true, ↓reduceIte, BitVec.and_assoc]
  · rw [and_FFFD_of_addr _ h1]
  · congr 1
    conv_lhs => rw [← and_FFFD_of_addr _ h1]
    simp only [BitVec.and_assoc]; rfl
  · rfl

/-- The registers after the entry read and a recovery (rules R132, R134): ACK is 1; every fault flag, ADDR, STOPF and
RXNE are 0, and BTF too if a byte waited; both armed bits are 0. -/
theorem Regs.recover_after_entry (r : Regs) :
    r.readSR1.2.recover = { r with
      cr1 := (r.cr1 ||| 0x0400#16) &&& 0xBFFB#16
      sr1 := if r.sr1.getLsbD 6 then r.sr1 &&& 0x20A9#16 else r.sr1 &&& 0x20AD#16
      addrArmed := false
      stopfArmed := false } := by
  have b6 : (r.sr1 &&& 0x20EF#16).getLsbD 6 = r.sr1.getLsbD 6 := by simp
  have b4 : (r.sr1 &&& 0x20EF#16).getLsbD 4 = false := by simp
  have c6 : r.sr1.getLsbD 6 = false → r.sr1 &&& 0x20EF#16 &&& 0xFFFD#16 = r.sr1 &&& 0x20AD#16 := by
    intro h6
    have h := and_FFBF_of_rxne _ h6
    calc r.sr1 &&& 0x20EF#16 &&& 0xFFFD#16 = (r.sr1 &&& 0xFFBF#16) &&& 0x20EF#16 &&& 0xFFFD#16 := by rw [h]
      _ = (r.sr1 &&& 0xFFBF#16) &&& 0x20AD#16 := by simp only [BitVec.and_assoc, BitVec.reduceAnd]
      _ = r.sr1 &&& 0x20AD#16 := by rw [h]
  have d6 : r.sr1 &&& 0x20EF#16 &&& 0xFFB9#16 = r.sr1 &&& 0x20A9#16 := by
    rw [BitVec.and_assoc]; simp only [BitVec.reduceAnd]
  rw [Regs.recover, Regs.setAck_writeSR1_after_entry, Regs.recheck_of_no_stop]
  case h4 => exact b4
  simp only [b6, d6]
  cases h6 : r.sr1.getLsbD 6
  · simp only [Bool.false_eq_true, ↓reduceIte, c6 h6]
  · simp only [↓reduceIte]

end Sys2Proof.Machine
end

