-- ==== Sys2Proof/Laws/PerInstr.lean ====
section
/-! SUPPORT. Statements made per instruction, about the instruction as syntax: one lemma per constructor. -/

namespace Sys2Proof.Laws

/-- Rules R85, R88, R92, R93: the RES field of every instruction's word is 0. -/
def ResZero.Statement (i : Instr) : Prop := (Fields.ofWord (encode i)).res = 0#7

theorem ResZero.of_fields (i : Instr) (h : i.fields.res = 0#7) : ResZero.Statement i := by
  simp only [ResZero.Statement, encode, Fields.ofWord_toWord, h]

theorem ResZero.evtAddrRead (tag : StageTag) (snap : Reg) : ResZero.Statement (.evtAddrRead tag snap) :=
  ResZero.of_fields _ rfl
theorem ResZero.evtAddrWrite (tag : StageTag) (snap : Reg) : ResZero.Statement (.evtAddrWrite tag snap) :=
  ResZero.of_fields _ rfl
theorem ResZero.evtTxByte (tra : Bool) (snap : Reg) : ResZero.Statement (.evtTxByte tra snap) :=
  ResZero.of_fields _ rfl
theorem ResZero.evtTxResync (tra : Bool) (snap : Reg) : ResZero.Statement (.evtTxResync tra snap) :=
  ResZero.of_fields _ rfl
theorem ResZero.evtRxByte (tra : Bool) (snap : Reg) : ResZero.Statement (.evtRxByte tra snap) :=
  ResZero.of_fields _ rfl
theorem ResZero.evtRxStop (tra : Bool) (snap : Reg) : ResZero.Statement (.evtRxStop tra snap) :=
  ResZero.of_fields _ rfl
theorem ResZero.evtRxIdle (tra : Bool) (snap : Reg) : ResZero.Statement (.evtRxIdle tra snap) :=
  ResZero.of_fields _ rfl
theorem ResZero.evtResync (tag : StageTag) (tra : Bool) (snap : Reg) : ResZero.Statement (.evtResync tag tra snap) :=
  ResZero.of_fields _ rfl
theorem ResZero.errNackEnd (tra : Bool) (snap : Reg) : ResZero.Statement (.errNackEnd tra snap) :=
  ResZero.of_fields _ rfl
theorem ResZero.errRecoverTx (tra : Bool) (snap : Reg) : ResZero.Statement (.errRecoverTx tra snap) :=
  ResZero.of_fields _ rfl
theorem ResZero.errRecoverRx (tra : Bool) (snap : Reg) : ResZero.Statement (.errRecoverRx tra snap) :=
  ResZero.of_fields _ rfl
theorem ResZero.errRecoverIdle (tag : StageTag) (tra : Bool) (snap : Reg) : ResZero.Statement (.errRecoverIdle tag tra snap) :=
  ResZero.of_fields _ rfl
theorem ResZero.tkInit (ictx : Bool) (addr7 : BitVec 7) : ResZero.Statement (.tkInit ictx addr7) :=
  ResZero.of_fields _ rfl
theorem ResZero.tkEnqueue (p : Packet) : ResZero.Statement (.tkEnqueue p) := ResZero.of_fields _ rfl
theorem ResZero.tkPoll : ResZero.Statement (.tkPoll) := ResZero.of_fields _ rfl
theorem ResZero.tkRegister : ResZero.Statement (.tkRegister) := ResZero.of_fields _ rfl
theorem ResZero.tkTeardown : ResZero.Statement (.tkTeardown) := ResZero.of_fields _ rfl
theorem ResZero.busAddr (rw : Bool) : ResZero.Statement (.busAddr rw) := ResZero.of_fields _ rfl
theorem ResZero.busWrite (data : Byte) : ResZero.Statement (.busWrite data) := ResZero.of_fields _ rfl
theorem ResZero.busRead (ack : Bool) : ResZero.Statement (.busRead ack) := ResZero.of_fields _ rfl
theorem ResZero.busStop : ResZero.Statement (.busStop) := ResZero.of_fields _ rfl
theorem ResZero.busFault (flags : Byte) : ResZero.Statement (.busFault flags) := ResZero.of_fields _ rfl

end Sys2Proof.Laws
end

