-- ==== Sys2Proof/Laws/State.lean ====
section
/-! SUPPORT. One lemma per field per update of the shared operations, so that no later proof unfolds a record update. -/

namespace Sys2Proof.Machine

/-! ### `State.raise` -/

@[simp] theorem State.raise_cfg (s : State) (f : Fault) : (s.raise f).cfg = s.cfg := rfl
@[simp] theorem State.raise_life (s : State) (f : Fault) : (s.raise f).life = s.life := rfl
@[simp] theorem State.raise_stage (s : State) (f : Fault) : (s.raise f).stage = s.stage := rfl
@[simp] theorem State.raise_txq (s : State) (f : Fault) : (s.raise f).txq = s.txq := rfl
@[simp] theorem State.raise_wake (s : State) (f : Fault) : (s.raise f).wake = s.wake := rfl
@[simp] theorem State.raise_task (s : State) (f : Fault) : (s.raise f).task = s.task := rfl
@[simp] theorem State.raise_regs (s : State) (f : Fault) : (s.raise f).regs = s.regs := rfl
@[simp] theorem State.raise_clkEn (s : State) (f : Fault) : (s.raise f).clkEn = s.clkEn := rfl
@[simp] theorem State.raise_evEn (s : State) (f : Fault) : (s.raise f).evEn = s.evEn := rfl
@[simp] theorem State.raise_erEn (s : State) (f : Fault) : (s.raise f).erEn = s.erEn := rfl
@[simp] theorem State.raise_busPhase (s : State) (f : Fault) : (s.raise f).busPhase = s.busPhase := rfl
@[simp] theorem State.raise_out (s : State) (f : Fault) : (s.raise f).out = s.out := rfl
@[simp] theorem State.raise_fault (s : State) (f : Fault) : (s.raise f).fault = some f := rfl
@[simp] theorem State.raise_refused (s : State) (f : Fault) : (s.raise f).refused = s.refused := rfl
@[simp] theorem State.raise_run (s : State) (f : Fault) : (s.raise f).run = s.run := rfl

/-! ### `State.refuse` -/

@[simp] theorem State.refuse_cfg (s : State) (x : RefuseReason) : (s.refuse x).cfg = s.cfg := rfl
@[simp] theorem State.refuse_life (s : State) (x : RefuseReason) : (s.refuse x).life = s.life := rfl
@[simp] theorem State.refuse_stage (s : State) (x : RefuseReason) : (s.refuse x).stage = s.stage := rfl
@[simp] theorem State.refuse_txq (s : State) (x : RefuseReason) : (s.refuse x).txq = s.txq := rfl
@[simp] theorem State.refuse_wake (s : State) (x : RefuseReason) : (s.refuse x).wake = s.wake := rfl
@[simp] theorem State.refuse_task (s : State) (x : RefuseReason) : (s.refuse x).task = s.task := rfl
@[simp] theorem State.refuse_regs (s : State) (x : RefuseReason) : (s.refuse x).regs = s.regs := rfl
@[simp] theorem State.refuse_clkEn (s : State) (x : RefuseReason) : (s.refuse x).clkEn = s.clkEn := rfl
@[simp] theorem State.refuse_evEn (s : State) (x : RefuseReason) : (s.refuse x).evEn = s.evEn := rfl
@[simp] theorem State.refuse_erEn (s : State) (x : RefuseReason) : (s.refuse x).erEn = s.erEn := rfl
@[simp] theorem State.refuse_busPhase (s : State) (x : RefuseReason) : (s.refuse x).busPhase = s.busPhase := rfl
@[simp] theorem State.refuse_out (s : State) (x : RefuseReason) : (s.refuse x).out = s.out := rfl
@[simp] theorem State.refuse_fault (s : State) (x : RefuseReason) : (s.refuse x).fault = s.fault := rfl
@[simp] theorem State.refuse_refused (s : State) (x : RefuseReason) :
    (s.refuse x).refused = some (s.refused.getD x) := rfl
@[simp] theorem State.refuse_run (s : State) (x : RefuseReason) : (s.refuse x).run = s.run := rfl

/-! ### `State.emit` -/

@[simp] theorem State.emit_cfg (s : State) (ds : List DiagRecord) : (s.emit ds).cfg = s.cfg := rfl
@[simp] theorem State.emit_life (s : State) (ds : List DiagRecord) : (s.emit ds).life = s.life := rfl
@[simp] theorem State.emit_stage (s : State) (ds : List DiagRecord) : (s.emit ds).stage = s.stage := rfl
@[simp] theorem State.emit_txq (s : State) (ds : List DiagRecord) : (s.emit ds).txq = s.txq := rfl
@[simp] theorem State.emit_wake (s : State) (ds : List DiagRecord) : (s.emit ds).wake = s.wake := rfl
@[simp] theorem State.emit_task (s : State) (ds : List DiagRecord) : (s.emit ds).task = s.task := rfl
@[simp] theorem State.emit_regs (s : State) (ds : List DiagRecord) : (s.emit ds).regs = s.regs := rfl
@[simp] theorem State.emit_clkEn (s : State) (ds : List DiagRecord) : (s.emit ds).clkEn = s.clkEn := rfl
@[simp] theorem State.emit_evEn (s : State) (ds : List DiagRecord) : (s.emit ds).evEn = s.evEn := rfl
@[simp] theorem State.emit_erEn (s : State) (ds : List DiagRecord) : (s.emit ds).erEn = s.erEn := rfl
@[simp] theorem State.emit_busPhase (s : State) (ds : List DiagRecord) : (s.emit ds).busPhase = s.busPhase := rfl
@[simp] theorem State.emit_out (s : State) (ds : List DiagRecord) : (s.emit ds).out = { s.out with diag := s.out.diag ++ ds } :=
  rfl
@[simp] theorem State.emit_fault (s : State) (ds : List DiagRecord) : (s.emit ds).fault = s.fault := rfl
@[simp] theorem State.emit_refused (s : State) (ds : List DiagRecord) : (s.emit ds).refused = s.refused := rfl
@[simp] theorem State.emit_run (s : State) (ds : List DiagRecord) : (s.emit ds).run = s.run := rfl

/-! ### `State.afterDraw` -/

@[simp] theorem State.afterDraw_cfg (s : State) : (s.afterDraw).cfg = s.cfg := rfl
@[simp] theorem State.afterDraw_life (s : State) : (s.afterDraw).life = s.life := rfl
@[simp] theorem State.afterDraw_stage (s : State) : (s.afterDraw).stage = s.stage := rfl
@[simp] theorem State.afterDraw_txq (s : State) : (s.afterDraw).txq = s.txq := rfl
@[simp] theorem State.afterDraw_wake (s : State) : (s.afterDraw).wake = s.wake := rfl
@[simp] theorem State.afterDraw_task (s : State) : (s.afterDraw).task = s.task := rfl
@[simp] theorem State.afterDraw_regs (s : State) : (s.afterDraw).regs = s.regs := rfl
@[simp] theorem State.afterDraw_clkEn (s : State) : (s.afterDraw).clkEn = s.clkEn := rfl
@[simp] theorem State.afterDraw_evEn (s : State) : (s.afterDraw).evEn = s.evEn := rfl
@[simp] theorem State.afterDraw_erEn (s : State) : (s.afterDraw).erEn = s.erEn := rfl
@[simp] theorem State.afterDraw_busPhase (s : State) : (s.afterDraw).busPhase = s.busPhase := rfl
@[simp] theorem State.afterDraw_out (s : State) : (s.afterDraw).out = s.out := rfl
@[simp] theorem State.afterDraw_fault (s : State) : (s.afterDraw).fault = s.fault := rfl
@[simp] theorem State.afterDraw_refused (s : State) : (s.afterDraw).refused = s.refused := rfl
@[simp] theorem State.afterDraw_run (s : State) : (s.afterDraw).run = { s.run with draw := none, free := s.run.free + 1 } :=
  rfl

/-! ### `State.enterHandler` -/

@[simp] theorem State.enterHandler_cfg (s : State) : (s.enterHandler).cfg = s.cfg := rfl
@[simp] theorem State.enterHandler_life (s : State) : (s.enterHandler).life = s.life := rfl
@[simp] theorem State.enterHandler_stage (s : State) : (s.enterHandler).stage = s.stage := rfl
@[simp] theorem State.enterHandler_txq (s : State) : (s.enterHandler).txq = s.txq := rfl
@[simp] theorem State.enterHandler_wake (s : State) : (s.enterHandler).wake = s.wake := rfl
@[simp] theorem State.enterHandler_task (s : State) : (s.enterHandler).task = s.task := rfl
@[simp] theorem State.enterHandler_regs (s : State) : (s.enterHandler).regs = s.regs.readSR1.2 := rfl
@[simp] theorem State.enterHandler_clkEn (s : State) : (s.enterHandler).clkEn = s.clkEn := rfl
@[simp] theorem State.enterHandler_evEn (s : State) : (s.enterHandler).evEn = s.evEn := rfl
@[simp] theorem State.enterHandler_erEn (s : State) : (s.enterHandler).erEn = s.erEn := rfl
@[simp] theorem State.enterHandler_busPhase (s : State) : (s.enterHandler).busPhase = s.busPhase := rfl
@[simp] theorem State.enterHandler_out (s : State) : (s.enterHandler).out = s.out := rfl
@[simp] theorem State.enterHandler_fault (s : State) : (s.enterHandler).fault = s.fault := rfl
@[simp] theorem State.enterHandler_refused (s : State) : (s.enterHandler).refused = s.refused := rfl
@[simp] theorem State.enterHandler_run (s : State) : (s.enterHandler).run = s.run := rfl

/-! ### `State.signalWake` -/

@[simp] theorem State.signalWake_cfg (s : State) : (s.signalWake).cfg = s.cfg := by
  unfold State.signalWake; split <;> simp_all
@[simp] theorem State.signalWake_life (s : State) : (s.signalWake).life = s.life := by
  unfold State.signalWake; split <;> simp_all
@[simp] theorem State.signalWake_stage (s : State) : (s.signalWake).stage = s.stage := by
  unfold State.signalWake; split <;> simp_all
@[simp] theorem State.signalWake_txq (s : State) : (s.signalWake).txq = s.txq := by
  unfold State.signalWake; split <;> simp_all
@[simp] theorem State.signalWake_wake (s : State) : (s.signalWake).wake = .empty := by
  unfold State.signalWake; split <;> simp_all
@[simp] theorem State.signalWake_task (s : State) : (s.signalWake).task = if s.wake = .registered then .polling else s.task := by
  unfold State.signalWake; split <;> simp_all
@[simp] theorem State.signalWake_regs (s : State) : (s.signalWake).regs = s.regs := by
  unfold State.signalWake; split <;> simp_all
@[simp] theorem State.signalWake_clkEn (s : State) : (s.signalWake).clkEn = s.clkEn := by
  unfold State.signalWake; split <;> simp_all
@[simp] theorem State.signalWake_evEn (s : State) : (s.signalWake).evEn = s.evEn := by
  unfold State.signalWake; split <;> simp_all
@[simp] theorem State.signalWake_erEn (s : State) : (s.signalWake).erEn = s.erEn := by
  unfold State.signalWake; split <;> simp_all
@[simp] theorem State.signalWake_busPhase (s : State) : (s.signalWake).busPhase = s.busPhase := by
  unfold State.signalWake; split <;> simp_all
@[simp] theorem State.signalWake_out (s : State) : (s.signalWake).out = s.out := by
  unfold State.signalWake; split <;> simp_all
@[simp] theorem State.signalWake_fault (s : State) : (s.signalWake).fault = s.fault := by
  unfold State.signalWake; split <;> simp_all
@[simp] theorem State.signalWake_refused (s : State) : (s.signalWake).refused = s.refused := by
  unfold State.signalWake; split <;> simp_all
@[simp] theorem State.signalWake_run (s : State) : (s.signalWake).run = s.run := by
  unfold State.signalWake; split <;> simp_all

/-! ### `State.recover` -/

@[simp] theorem State.recover_cfg (s : State) (e : Reg) : (s.recover e).cfg = s.cfg := rfl
@[simp] theorem State.recover_life (s : State) (e : Reg) : (s.recover e).life = s.life := rfl
@[simp] theorem State.recover_stage (s : State) (e : Reg) : (s.recover e).stage = .waiting := rfl
@[simp] theorem State.recover_txq (s : State) (e : Reg) : (s.recover e).txq = s.txq := rfl
@[simp] theorem State.recover_wake (s : State) (e : Reg) : (s.recover e).wake = s.wake := rfl
@[simp] theorem State.recover_task (s : State) (e : Reg) : (s.recover e).task = s.task := rfl
@[simp] theorem State.recover_regs (s : State) (e : Reg) : (s.recover e).regs = s.regs.recover := rfl
@[simp] theorem State.recover_clkEn (s : State) (e : Reg) : (s.recover e).clkEn = s.clkEn := rfl
@[simp] theorem State.recover_evEn (s : State) (e : Reg) : (s.recover e).evEn = s.evEn := rfl
@[simp] theorem State.recover_erEn (s : State) (e : Reg) : (s.recover e).erEn = s.erEn := rfl
@[simp] theorem State.recover_busPhase (s : State) (e : Reg) : (s.recover e).busPhase = s.busPhase := rfl
@[simp] theorem State.recover_out (s : State) (e : Reg) : (s.recover e).out = { s.out with diag := s.out.diag ++ [.fault (faultByte e)] } :=
  rfl
@[simp] theorem State.recover_fault (s : State) (e : Reg) : (s.recover e).fault = s.fault := rfl
@[simp] theorem State.recover_refused (s : State) (e : Reg) : (s.recover e).refused = s.refused := rfl
@[simp] theorem State.recover_run (s : State) (e : Reg) : (s.recover e).run = s.run := rfl

/-! ### `Regs.readSR1` -/

@[simp] theorem Regs.readSR1_cr1 (r : Regs) : (r.readSR1.2).cr1 = r.cr1 := rfl
@[simp] theorem Regs.readSR1_cr2 (r : Regs) : (r.readSR1.2).cr2 = r.cr2 := rfl
@[simp] theorem Regs.readSR1_oar1 (r : Regs) : (r.readSR1.2).oar1 = r.oar1 := rfl
@[simp] theorem Regs.readSR1_oar2 (r : Regs) : (r.readSR1.2).oar2 = r.oar2 := rfl
@[simp] theorem Regs.readSR1_dr (r : Regs) : (r.readSR1.2).dr = r.dr := rfl
@[simp] theorem Regs.readSR1_sr1 (r : Regs) : (r.readSR1.2).sr1 = r.sr1 := rfl
@[simp] theorem Regs.readSR1_sr2 (r : Regs) : (r.readSR1.2).sr2 = r.sr2 := rfl
@[simp] theorem Regs.readSR1_ccr (r : Regs) : (r.readSR1.2).ccr = r.ccr := rfl
@[simp] theorem Regs.readSR1_trise (r : Regs) : (r.readSR1.2).trise = r.trise := rfl
@[simp] theorem Regs.readSR1_fltr (r : Regs) : (r.readSR1.2).fltr = r.fltr := rfl
@[simp] theorem Regs.readSR1_addrArmed (r : Regs) : (r.readSR1.2).addrArmed = r.sr1.getLsbD 1 := rfl
@[simp] theorem Regs.readSR1_stopfArmed (r : Regs) : (r.readSR1.2).stopfArmed = r.sr1.getLsbD 4 := rfl

/-! ### `Regs.readSR2` -/

@[simp] theorem Regs.readSR2_cr1 (r : Regs) : (r.readSR2.2).cr1 = r.cr1 := by
  rw [Regs.readSR2_eq]; split <;> simp_all
@[simp] theorem Regs.readSR2_cr2 (r : Regs) : (r.readSR2.2).cr2 = r.cr2 := by
  rw [Regs.readSR2_eq]; split <;> simp_all
@[simp] theorem Regs.readSR2_oar1 (r : Regs) : (r.readSR2.2).oar1 = r.oar1 := by
  rw [Regs.readSR2_eq]; split <;> simp_all
@[simp] theorem Regs.readSR2_oar2 (r : Regs) : (r.readSR2.2).oar2 = r.oar2 := by
  rw [Regs.readSR2_eq]; split <;> simp_all
@[simp] theorem Regs.readSR2_dr (r : Regs) : (r.readSR2.2).dr = r.dr := by
  rw [Regs.readSR2_eq]; split <;> simp_all
@[simp] theorem Regs.readSR2_sr1 (r : Regs) : (r.readSR2.2).sr1 = if r.addrArmed then r.sr1 &&& 0xFFFD#16 else r.sr1 := by
  rw [Regs.readSR2_eq]; split <;> simp_all
@[simp] theorem Regs.readSR2_sr2 (r : Regs) : (r.readSR2.2).sr2 = r.sr2 := by
  rw [Regs.readSR2_eq]; split <;> simp_all
@[simp] theorem Regs.readSR2_ccr (r : Regs) : (r.readSR2.2).ccr = r.ccr := by
  rw [Regs.readSR2_eq]; split <;> simp_all
@[simp] theorem Regs.readSR2_trise (r : Regs) : (r.readSR2.2).trise = r.trise := by
  rw [Regs.readSR2_eq]; split <;> simp_all
@[simp] theorem Regs.readSR2_fltr (r : Regs) : (r.readSR2.2).fltr = r.fltr := by
  rw [Regs.readSR2_eq]; split <;> simp_all
@[simp] theorem Regs.readSR2_addrArmed (r : Regs) : (r.readSR2.2).addrArmed = false := by
  rw [Regs.readSR2_eq]; split <;> simp_all
@[simp] theorem Regs.readSR2_stopfArmed (r : Regs) : (r.readSR2.2).stopfArmed = r.stopfArmed := by
  rw [Regs.readSR2_eq]; split <;> simp_all

/-! ### `Regs.readDR` -/

@[simp] theorem Regs.readDR_cr1 (r : Regs) : (r.readDR.2).cr1 = r.cr1 := by rw [Regs.readDR_eq]
@[simp] theorem Regs.readDR_cr2 (r : Regs) : (r.readDR.2).cr2 = r.cr2 := by rw [Regs.readDR_eq]
@[simp] theorem Regs.readDR_oar1 (r : Regs) : (r.readDR.2).oar1 = r.oar1 := by rw [Regs.readDR_eq]
@[simp] theorem Regs.readDR_oar2 (r : Regs) : (r.readDR.2).oar2 = r.oar2 := by rw [Regs.readDR_eq]
@[simp] theorem Regs.readDR_dr (r : Regs) : (r.readDR.2).dr = r.dr := by rw [Regs.readDR_eq]
@[simp] theorem Regs.readDR_sr1 (r : Regs) : (r.readDR.2).sr1 = r.sr1 &&& 0xFFBB#16 := by rw [Regs.readDR_eq]
@[simp] theorem Regs.readDR_sr2 (r : Regs) : (r.readDR.2).sr2 = r.sr2 := by rw [Regs.readDR_eq]
@[simp] theorem Regs.readDR_ccr (r : Regs) : (r.readDR.2).ccr = r.ccr := by rw [Regs.readDR_eq]
@[simp] theorem Regs.readDR_trise (r : Regs) : (r.readDR.2).trise = r.trise := by rw [Regs.readDR_eq]
@[simp] theorem Regs.readDR_fltr (r : Regs) : (r.readDR.2).fltr = r.fltr := by rw [Regs.readDR_eq]
@[simp] theorem Regs.readDR_addrArmed (r : Regs) : (r.readDR.2).addrArmed = r.addrArmed := by rw [Regs.readDR_eq]
@[simp] theorem Regs.readDR_stopfArmed (r : Regs) : (r.readDR.2).stopfArmed = r.stopfArmed := by rw [Regs.readDR_eq]

/-! ### `Regs.writeDR` -/

@[simp] theorem Regs.writeDR_cr1 (r : Regs) (b : Byte) : (r.writeDR b).cr1 = r.cr1 := by rw [Regs.writeDR_eq]
@[simp] theorem Regs.writeDR_cr2 (r : Regs) (b : Byte) : (r.writeDR b).cr2 = r.cr2 := by rw [Regs.writeDR_eq]
@[simp] theorem Regs.writeDR_oar1 (r : Regs) (b : Byte) : (r.writeDR b).oar1 = r.oar1 := by rw [Regs.writeDR_eq]
@[simp] theorem Regs.writeDR_oar2 (r : Regs) (b : Byte) : (r.writeDR b).oar2 = r.oar2 := by rw [Regs.writeDR_eq]
@[simp] theorem Regs.writeDR_dr (r : Regs) (b : Byte) : (r.writeDR b).dr = b := by rw [Regs.writeDR_eq]
@[simp] theorem Regs.writeDR_sr1 (r : Regs) (b : Byte) : (r.writeDR b).sr1 = r.sr1 &&& 0xFF7B#16 :=
  by rw [Regs.writeDR_eq]
@[simp] theorem Regs.writeDR_sr2 (r : Regs) (b : Byte) : (r.writeDR b).sr2 = r.sr2 := by rw [Regs.writeDR_eq]
@[simp] theorem Regs.writeDR_ccr (r : Regs) (b : Byte) : (r.writeDR b).ccr = r.ccr := by rw [Regs.writeDR_eq]
@[simp] theorem Regs.writeDR_trise (r : Regs) (b : Byte) : (r.writeDR b).trise = r.trise := by rw [Regs.writeDR_eq]
@[simp] theorem Regs.writeDR_fltr (r : Regs) (b : Byte) : (r.writeDR b).fltr = r.fltr := by rw [Regs.writeDR_eq]
@[simp] theorem Regs.writeDR_addrArmed (r : Regs) (b : Byte) : (r.writeDR b).addrArmed = r.addrArmed :=
  by rw [Regs.writeDR_eq]
@[simp] theorem Regs.writeDR_stopfArmed (r : Regs) (b : Byte) : (r.writeDR b).stopfArmed = r.stopfArmed :=
  by rw [Regs.writeDR_eq]

/-! ### `Regs.writeCR1` -/

@[simp] theorem Regs.writeCR1_cr1 (r : Regs) (v : Reg) : (r.writeCR1 v).cr1 = v &&& 0xBFFB#16 :=
  by rw [Regs.writeCR1_eq]
@[simp] theorem Regs.writeCR1_cr2 (r : Regs) (v : Reg) : (r.writeCR1 v).cr2 = r.cr2 := by rw [Regs.writeCR1_eq]
@[simp] theorem Regs.writeCR1_oar1 (r : Regs) (v : Reg) : (r.writeCR1 v).oar1 = r.oar1 := by rw [Regs.writeCR1_eq]
@[simp] theorem Regs.writeCR1_oar2 (r : Regs) (v : Reg) : (r.writeCR1 v).oar2 = r.oar2 := by rw [Regs.writeCR1_eq]
@[simp] theorem Regs.writeCR1_dr (r : Regs) (v : Reg) : (r.writeCR1 v).dr = r.dr := by rw [Regs.writeCR1_eq]
@[simp] theorem Regs.writeCR1_sr1 (r : Regs) (v : Reg) : (r.writeCR1 v).sr1 = if r.stopfArmed then r.sr1 &&& 0xFFEF#16 else r.sr1 :=
  by rw [Regs.writeCR1_eq]
@[simp] theorem Regs.writeCR1_sr2 (r : Regs) (v : Reg) : (r.writeCR1 v).sr2 = r.sr2 := by rw [Regs.writeCR1_eq]
@[simp] theorem Regs.writeCR1_ccr (r : Regs) (v : Reg) : (r.writeCR1 v).ccr = r.ccr := by rw [Regs.writeCR1_eq]
@[simp] theorem Regs.writeCR1_trise (r : Regs) (v : Reg) : (r.writeCR1 v).trise = r.trise := by rw [Regs.writeCR1_eq]
@[simp] theorem Regs.writeCR1_fltr (r : Regs) (v : Reg) : (r.writeCR1 v).fltr = r.fltr := by rw [Regs.writeCR1_eq]
@[simp] theorem Regs.writeCR1_addrArmed (r : Regs) (v : Reg) : (r.writeCR1 v).addrArmed = r.addrArmed :=
  by rw [Regs.writeCR1_eq]
@[simp] theorem Regs.writeCR1_stopfArmed (r : Regs) (v : Reg) : (r.writeCR1 v).stopfArmed = false :=
  by rw [Regs.writeCR1_eq]

/-! ### `Regs.writeSR1` -/

@[simp] theorem Regs.writeSR1_cr1 (r : Regs) (v : Reg) : (r.writeSR1 v).cr1 = r.cr1 := rfl
@[simp] theorem Regs.writeSR1_cr2 (r : Regs) (v : Reg) : (r.writeSR1 v).cr2 = r.cr2 := rfl
@[simp] theorem Regs.writeSR1_oar1 (r : Regs) (v : Reg) : (r.writeSR1 v).oar1 = r.oar1 := rfl
@[simp] theorem Regs.writeSR1_oar2 (r : Regs) (v : Reg) : (r.writeSR1 v).oar2 = r.oar2 := rfl
@[simp] theorem Regs.writeSR1_dr (r : Regs) (v : Reg) : (r.writeSR1 v).dr = r.dr := rfl
@[simp] theorem Regs.writeSR1_sr1 (r : Regs) (v : Reg) : (r.writeSR1 v).sr1 = r.sr1 &&& (v ||| 0x20FF#16) := rfl
@[simp] theorem Regs.writeSR1_sr2 (r : Regs) (v : Reg) : (r.writeSR1 v).sr2 = r.sr2 := rfl
@[simp] theorem Regs.writeSR1_ccr (r : Regs) (v : Reg) : (r.writeSR1 v).ccr = r.ccr := rfl
@[simp] theorem Regs.writeSR1_trise (r : Regs) (v : Reg) : (r.writeSR1 v).trise = r.trise := rfl
@[simp] theorem Regs.writeSR1_fltr (r : Regs) (v : Reg) : (r.writeSR1 v).fltr = r.fltr := rfl
@[simp] theorem Regs.writeSR1_addrArmed (r : Regs) (v : Reg) : (r.writeSR1 v).addrArmed = r.addrArmed := rfl
@[simp] theorem Regs.writeSR1_stopfArmed (r : Regs) (v : Reg) : (r.writeSR1 v).stopfArmed = r.stopfArmed := rfl

/-! ### `Regs.writeCR2` -/

@[simp] theorem Regs.writeCR2_cr1 (r : Regs) (v : Reg) : (r.writeCR2 v).cr1 = r.cr1 := rfl
@[simp] theorem Regs.writeCR2_cr2 (r : Regs) (v : Reg) : (r.writeCR2 v).cr2 = v &&& 0x1F3F#16 := rfl
@[simp] theorem Regs.writeCR2_oar1 (r : Regs) (v : Reg) : (r.writeCR2 v).oar1 = r.oar1 := rfl
@[simp] theorem Regs.writeCR2_oar2 (r : Regs) (v : Reg) : (r.writeCR2 v).oar2 = r.oar2 := rfl
@[simp] theorem Regs.writeCR2_dr (r : Regs) (v : Reg) : (r.writeCR2 v).dr = r.dr := rfl
@[simp] theorem Regs.writeCR2_sr1 (r : Regs) (v : Reg) : (r.writeCR2 v).sr1 = r.sr1 := rfl
@[simp] theorem Regs.writeCR2_sr2 (r : Regs) (v : Reg) : (r.writeCR2 v).sr2 = r.sr2 := rfl
@[simp] theorem Regs.writeCR2_ccr (r : Regs) (v : Reg) : (r.writeCR2 v).ccr = r.ccr := rfl
@[simp] theorem Regs.writeCR2_trise (r : Regs) (v : Reg) : (r.writeCR2 v).trise = r.trise := rfl
@[simp] theorem Regs.writeCR2_fltr (r : Regs) (v : Reg) : (r.writeCR2 v).fltr = r.fltr := rfl
@[simp] theorem Regs.writeCR2_addrArmed (r : Regs) (v : Reg) : (r.writeCR2 v).addrArmed = r.addrArmed := rfl
@[simp] theorem Regs.writeCR2_stopfArmed (r : Regs) (v : Reg) : (r.writeCR2 v).stopfArmed = r.stopfArmed := rfl

/-! ### `Regs.writeOAR1` -/

@[simp] theorem Regs.writeOAR1_cr1 (r : Regs) (v : Reg) : (r.writeOAR1 v).cr1 = r.cr1 := rfl
@[simp] theorem Regs.writeOAR1_cr2 (r : Regs) (v : Reg) : (r.writeOAR1 v).cr2 = r.cr2 := rfl
@[simp] theorem Regs.writeOAR1_oar1 (r : Regs) (v : Reg) : (r.writeOAR1 v).oar1 = v &&& 0xC3FF#16 := rfl
@[simp] theorem Regs.writeOAR1_oar2 (r : Regs) (v : Reg) : (r.writeOAR1 v).oar2 = r.oar2 := rfl
@[simp] theorem Regs.writeOAR1_dr (r : Regs) (v : Reg) : (r.writeOAR1 v).dr = r.dr := rfl
@[simp] theorem Regs.writeOAR1_sr1 (r : Regs) (v : Reg) : (r.writeOAR1 v).sr1 = r.sr1 := rfl
@[simp] theorem Regs.writeOAR1_sr2 (r : Regs) (v : Reg) : (r.writeOAR1 v).sr2 = r.sr2 := rfl
@[simp] theorem Regs.writeOAR1_ccr (r : Regs) (v : Reg) : (r.writeOAR1 v).ccr = r.ccr := rfl
@[simp] theorem Regs.writeOAR1_trise (r : Regs) (v : Reg) : (r.writeOAR1 v).trise = r.trise := rfl
@[simp] theorem Regs.writeOAR1_fltr (r : Regs) (v : Reg) : (r.writeOAR1 v).fltr = r.fltr := rfl
@[simp] theorem Regs.writeOAR1_addrArmed (r : Regs) (v : Reg) : (r.writeOAR1 v).addrArmed = r.addrArmed := rfl
@[simp] theorem Regs.writeOAR1_stopfArmed (r : Regs) (v : Reg) : (r.writeOAR1 v).stopfArmed = r.stopfArmed := rfl

/-! ### `Regs.writeOAR2` -/

@[simp] theorem Regs.writeOAR2_cr1 (r : Regs) (v : Reg) : (r.writeOAR2 v).cr1 = r.cr1 := rfl
@[simp] theorem Regs.writeOAR2_cr2 (r : Regs) (v : Reg) : (r.writeOAR2 v).cr2 = r.cr2 := rfl
@[simp] theorem Regs.writeOAR2_oar1 (r : Regs) (v : Reg) : (r.writeOAR2 v).oar1 = r.oar1 := rfl
@[simp] theorem Regs.writeOAR2_oar2 (r : Regs) (v : Reg) : (r.writeOAR2 v).oar2 = v &&& 0x00FF#16 := rfl
@[simp] theorem Regs.writeOAR2_dr (r : Regs) (v : Reg) : (r.writeOAR2 v).dr = r.dr := rfl
@[simp] theorem Regs.writeOAR2_sr1 (r : Regs) (v : Reg) : (r.writeOAR2 v).sr1 = r.sr1 := rfl
@[simp] theorem Regs.writeOAR2_sr2 (r : Regs) (v : Reg) : (r.writeOAR2 v).sr2 = r.sr2 := rfl
@[simp] theorem Regs.writeOAR2_ccr (r : Regs) (v : Reg) : (r.writeOAR2 v).ccr = r.ccr := rfl
@[simp] theorem Regs.writeOAR2_trise (r : Regs) (v : Reg) : (r.writeOAR2 v).trise = r.trise := rfl
@[simp] theorem Regs.writeOAR2_fltr (r : Regs) (v : Reg) : (r.writeOAR2 v).fltr = r.fltr := rfl
@[simp] theorem Regs.writeOAR2_addrArmed (r : Regs) (v : Reg) : (r.writeOAR2 v).addrArmed = r.addrArmed := rfl
@[simp] theorem Regs.writeOAR2_stopfArmed (r : Regs) (v : Reg) : (r.writeOAR2 v).stopfArmed = r.stopfArmed := rfl

end Sys2Proof.Machine
end

