-- ==== Sys2Proof/Laws/Step.lean ====
section
/-! SUPPORT. What taking a step can do: the two shared frames of a meaning, the fetch, and the whole step, each said
once. -/

namespace Sys2Proof.Machine

/-- What a gated body answers: the state as it was, or the body's result where the condition holds. -/
theorem attempt_next {s t : State} {en : Bool} {body : State → State} (h : s.attempt en body = .next t) :
    (en = true ∧ t = body s) ∨ (en = false ∧ t = s) := by
  simp only [State.attempt, Host.Outcome.next.injEq] at h
  cases en
  · exact .inr ⟨rfl, h.symm⟩
  · exact .inl ⟨rfl, h.symm⟩

theorem attempt_disabled (s : State) (body : State → State) : s.attempt false body = .next s := rfl

theorem attempt_enabled (s : State) (body : State → State) : s.attempt true body = .next (body s) := rfl

/-- What a step behind the lifecycle gate answers (rules R151, R205). -/
theorem tkGate_next {s t : State} {body : State → State} (h : s.tkGate body = .next t) :
    (s.marked = true ∧ t = s)
      ∨ (s.marked = false ∧ s.life = .unconstructed ∧ t = s.raise .notConstructed)
      ∨ (s.marked = false ∧ s.life = .released ∧ t = s.raise .useAfterRelease)
      ∨ (s.marked = false ∧ s.life = .active ∧ t = body s) := by
  simp only [State.tkGate, Host.Outcome.next.injEq] at h
  cases hm : s.marked <;> simp only [hm, Bool.false_eq_true, ↓reduceIte] at h
  · cases hl : s.life <;> simp only [hl] at h <;> simp [h]
  · exact .inl ⟨rfl, h.symm⟩

theorem tkGate_active {s : State} (hm : s.marked = false) (hl : s.life = .active) (body : State → State) :
    s.tkGate body = .next (body s) := by
  simp only [State.tkGate, hm, hl, Bool.false_eq_true, ↓reduceIte]

/-- What `TK_INIT` answers (rule R152). -/
theorem execTkInit_next {ictx : Bool} {a : BitVec 7} {s t : State} (h : execTkInit ictx a s = .next t) :
    t = s ∨ (s.marked = false ∧ ∃ f, t = s.raise f)
      ∨ (s.marked = false ∧ s.life = .unconstructed ∧ ictx = false ∧ t = s.construct a) := by
  simp only [execTkInit, Host.Outcome.next.injEq] at h
  cases hm : s.marked <;> simp only [hm, Bool.false_eq_true, ↓reduceIte] at h
  · cases ictx <;> simp only [Bool.false_eq_true, ↓reduceIte] at h
    · cases hl : s.life <;> simp only [hl] at h
      · exact .inr (.inr ⟨rfl, rfl, rfl, h.symm⟩)
      · exact .inr (.inl ⟨rfl, _, h.symm⟩)
      · exact .inr (.inl ⟨rfl, _, h.symm⟩)
    · exact .inr (.inl ⟨rfl, _, h.symm⟩)
  · exact .inl h.symm

/-- Every instruction answers a next state: the spec's faults are marks in it (rules R205, R206). -/
theorem exec_total (i : Instr) (s : State) : ∃ t, exec i s = .next t := by
  cases i <;> exact ⟨_, rfl⟩

/-- A handler step whose word the state forms is the one rule R88 forms there. -/
theorem formsInstr_of_forms {s : State} {src : BitVec 2} {tag : StageTag} {tra : Bool} {e : Reg} {i : Instr}
    (hi : i.fields = Fields.handler src tag tra e) (h : s.forms tag tra e = true) : s.formsInstr src i = true := by
  simp only [State.forms, Bool.and_eq_true, beq_iff_eq] at h
  obtain ⟨⟨rfl, rfl⟩, rfl⟩ := h
  simp [State.formsInstr, hi]

/-- A step that is not enabled changes nothing (rules R14, R82). -/
theorem exec_disabled {s : State} {i : Instr} (h : s.stepEnabled i = false) : exec i s = .next s := by
  have hf {src tag tra e} (hi : i.fields = Fields.handler src tag tra e) : s.forms tag tra e = true → _ :=
    formsInstr_of_forms hi
  cases i <;> simp only [exec, State.stepEnabled, Bool.and_eq_false_iff] at h ⊢ <;>
    first
    | (have := hf rfl; revert this; rcases h with h | h <;>
        simp_all [State.attempt, execEvtAddrRead, execEvtAddrWrite, execEvtTxByte, execEvtTxResync, execEvtRxByte,
          execEvtRxStop, execEvtRxIdle, execEvtResync, execErrNackEnd, execErrRecoverTx, execErrRecoverRx,
          execErrRecoverIdle])
    | (rcases h with h | h <;> simp_all [State.tkGate, execTkPoll, execTkRegister])
    | simp_all [State.attempt, State.tkGate, execTkInit, execTkEnqueue, execTkTeardown, execBusAddr, execBusWrite,
        execBusRead, execBusStop, execBusFault]

/-- What taking the step of `i` leaves of the task program (rule R157): all of it, or all but the call it was. -/
theorem grant_cases {s : State} {i : Instr} {prog : List Call} (h : s.grant i = some prog) :
    prog = s.run.prog ∨ ∃ c, s.run.prog = c :: prog ∧ c.op.instr = i ∧ s.holds c = false := by
  unfold State.grant at h
  split at h
  · exact .inl (by cases h; rfl)
  · split at h
    · cases h
    · rename_i c cs hp
      split at h
      · rename_i hc
        cases h
        exact .inr ⟨c, hp, hc⟩
      · cases h

/-- A spelled step moves the run's inputs and nothing else. -/
theorem fetchWord_state (t : State) (x : StepItem) : (t.fetchWord x).2 = { t with run := (t.fetchWord x).2.run } := by
  simp only [State.fetchWord]
  split
  · rfl
  · split <;> rfl

/-- The fetch moves the run's inputs and nothing else. -/
theorem fetch_state (s : State) : s.fetch.2 = { s with run := s.fetch.2.run } := by
  unfold State.fetch
  rcases s.run.sched with _ | ⟨c, cs⟩
  · rfl
  · cases c with
    | ev => rfl
    | er => rfl
    | word x => simp only; rw [fetchWord_state]
    | otherEnqueue p => simp only; split <;> rfl

/-- Everything a step can do: nothing, in a marked state; the refusal of the parameters; taking a choice that names no
step; the refusal of a reserved word; or the execution of a well-formed instruction, after the choice is taken. -/
theorem step_cases {s t : State} (h : step s = .next t) :
    (s.marked = true ∧ t = s)
      ∨ (s.marked = false ∧ t = s.refuse .unadmittedParameter)
      ∨ (s.marked = false ∧ ∃ r, t = { s with run := r })
      ∨ (s.marked = false ∧ ∃ r, t = State.refuse { s with run := r } .reservedEncoding)
      ∨ ∃ r i, s.marked = false ∧ s.nextInstr = some i ∧ i.wellFormed s.cfg.packetLen = true
          ∧ exec i { s with run := r } = .next t := by
  simp only [step, State.takeStep] at h
  split at h
  · exact .inl ⟨‹_›, by cases h; rfl⟩
  rename_i hm0
  have hm : s.marked = false := by simpa using hm0
  split at h
  · exact .inr (.inl ⟨hm, by cases h; rfl⟩)
  rename_i hc0
  have hc : s.cfg.admitted = true := by simpa using hc0
  have hf := fetch_state s
  split at h
  · rename_i u hu
    rw [hu] at hf
    exact .inr (.inr (.inl ⟨hm, u.run, by cases h; exact hf⟩))
  · rename_i x u hu
    rw [hu] at hf
    simp only at hf
    rw [State.issue] at h
    split at h
    · refine .inr (.inr (.inr (.inl ⟨hm, u.run, ?_⟩)))
      cases h
      rw [← hf]
    · rename_i i hi
      split at h
      · refine .inr (.inr (.inr (.inr ⟨u.run, i, hm, ?_, ?_, ?_⟩)))
        · simp [State.nextInstr, hm, hc, hu, hi, Except.toOption]
        · rw [hf] at *; assumption
        · rw [← hf]; exact h
      · cases h

end Sys2Proof.Machine
end

