-- ==== Sys2Proof/Tests/Slice0.lean ====
section
/-! SUPPORT. Tests: the words and the vectors of 95_test_vectors.md, ill-formed instructions, and for every statement
with hypotheses a concrete state and operands that meet them. -/

namespace Sys2Proof.Tests

open Sys2Proof Sys2Proof.Machine

/-- The state of an answer, if it is one. -/
def stateOf : Host.Outcome State Fault Refusal → Option State
  | .next t => some t
  | .fault _ => none
  | .refused _ => none

/-- What `f` reads from the state an answer gives. -/
def gives {α : Type} (o : Host.Outcome State Fault Refusal) (f : State → α) : Option α := (stateOf o).map f

theorem next_of_gives {o : Host.Outcome State Fault Refusal} {t : State} (h : gives o id = some t) : o = .next t := by
  cases o <;> simp_all [gives, stateOf]

/-- A task port, handler or bus step as the next choice. -/
def chosen (s : State) (c : Choice) : State := { s with run := { s.run with sched := [c] } }

/-- The program's next call, chosen next. -/
def calling (s : State) (c : Call) : State :=
  { s with run := { s.run with prog := [c], sched := [Choice.of c.op.instr] } }

/-- Packet A of the vectors. -/
def pktA : Packet :=
  [0x01#8, 0x02#8, 0x03#8, 0x04#8, 0x05#8, 0x06#8, 0x07#8, 0x08#8, 0x09#8, 0x0A#8, 0x0B#8, 0x0C#8, 0x0D#8, 0x0E#8,
    0x0F#8, 0x10#8, 0x11#8]

/-- Packet B of the vectors. -/
def pktB : Packet :=
  [0x21#8, 0x22#8, 0x23#8, 0x24#8, 0x25#8, 0x26#8, 0x27#8, 0x28#8, 0x29#8, 0x2A#8, 0x2B#8, 0x2C#8, 0x2D#8, 0x2E#8,
    0x2F#8, 0x30#8, 0x31#8]

/-- Packet Z of the vectors. -/
def pktZ : Packet := List.replicate 17 0x00#8

/-- `CleanActive(0x2A)` with the default parameters. -/
def clean : State :=
  State.cleanActive Params.default 0x2A#7 0x0000#16 0x0002#16 0x0000#16 State.reset.run

/-- `clean` in stage `st` with the given SR1. -/
def at_ (st : Stage) (sr1 : Reg) : State := { clean with stage := st, regs := { clean.regs with sr1 := sr1 } }

/-- The same during a host read (`SR2` = TRA, BUSY). -/
def reading (st : Stage) (sr1 : Reg) : State :=
  { clean with stage := st, busPhase := .tx, regs := { clean.regs with sr1 := sr1, sr2 := 0x0006#16 } }

/-- `clean` with ACK withheld and packet A ready. -/
def ready (sr1 : Reg) : State :=
  { clean with
    stage := .receivedDataReady pktA
    regs := { clean.regs with cr1 := 0x0001#16, sr1 := sr1 } }

/-- The deadlock of rule R256. -/
def deadlock : State := { ready 0x0000#16 with wake := .registered, task := .suspended }

/-! ## Ill-formed instructions: one for each check -/

theorem test_wf_addr_read : (Instr.evtAddrRead .waiting 0x0080#16).wellFormed 17 = false := by decide
theorem test_wf_addr_write : (Instr.evtAddrWrite .waiting 0x0010#16).wellFormed 17 = false := by decide
theorem test_wf_tx_byte_addr : (Instr.evtTxByte true 0x0082#16).wellFormed 17 = false := by decide
theorem test_wf_tx_byte_txe : (Instr.evtTxByte true 0x0000#16).wellFormed 17 = false := by decide
theorem test_wf_tx_resync_addr : (Instr.evtTxResync true 0x0002#16).wellFormed 17 = false := by decide
theorem test_wf_tx_resync_txe : (Instr.evtTxResync true 0x0080#16).wellFormed 17 = false := by decide
theorem test_wf_rx_byte_addr : (Instr.evtRxByte false 0x0042#16).wellFormed 17 = false := by decide
theorem test_wf_rx_byte_rxne : (Instr.evtRxByte false 0x0010#16).wellFormed 17 = false := by decide
theorem test_wf_rx_stop_addr : (Instr.evtRxStop false 0x0012#16).wellFormed 17 = false := by decide
theorem test_wf_rx_stop_rxne : (Instr.evtRxStop false 0x0050#16).wellFormed 17 = false := by decide
theorem test_wf_rx_stop_stopf : (Instr.evtRxStop false 0x0080#16).wellFormed 17 = false := by decide
theorem test_wf_rx_idle_addr : (Instr.evtRxIdle false 0x0002#16).wellFormed 17 = false := by decide
theorem test_wf_rx_idle_rxne : (Instr.evtRxIdle false 0x0040#16).wellFormed 17 = false := by decide
theorem test_wf_rx_idle_stopf : (Instr.evtRxIdle false 0x0010#16).wellFormed 17 = false := by decide
theorem test_wf_resync_tag : (Instr.evtResync .receiving false 0x0010#16).wellFormed 17 = false := by decide
theorem test_wf_resync_addr : (Instr.evtResync .waiting false 0x0002#16).wellFormed 17 = false := by decide
theorem test_wf_nack_end : (Instr.errNackEnd true 0x0100#16).wellFormed 17 = false := by decide
theorem test_wf_recover_tx : (Instr.errRecoverTx true 0x0500#16).wellFormed 17 = false := by decide
theorem test_wf_recover_idle : (Instr.errRecoverIdle .transmitting true 0x0100#16).wellFormed 17 = false := by decide
theorem test_wf_enqueue : (Instr.tkEnqueue [0x01#8]).wellFormed 17 = false := by decide
theorem test_wf_bus_fault : (Instr.busFault 0x20#8).wellFormed 17 = false := by decide

/-! ## Decoding of words written out from the encoding tables (vectors V1 to V52) -/

theorem test_decode_v1 : decode 0x00010082#32 [] = .ok (.evtAddrRead .waiting 0x0082#16) := by decide
theorem test_decode_v2 : decode 0x30010082#32 [] = .ok (.evtAddrRead .transmitting 0x0082#16) := by decide
theorem test_decode_v4 : decode 0x20000052#32 [] = .ok (.evtAddrWrite .receiving 0x0052#16) := by decide
theorem test_decode_v7 : decode 0x30010480#32 [] = .ok (.evtTxByte true 0x0480#16) := by decide
theorem test_decode_v8 : decode 0x30000010#32 [] = .ok (.evtTxResync false 0x0010#16) := by decide
theorem test_decode_v11 : decode 0x20000050#32 [] = .ok (.evtRxByte false 0x0050#16) := by decide
theorem test_decode_v12 : decode 0x20000010#32 [] = .ok (.evtRxStop false 0x0010#16) := by decide
theorem test_decode_v13 : decode 0x20000080#32 [] = .ok (.evtRxIdle false 0x0080#16) := by decide
theorem test_decode_v15 : decode 0x10000050#32 [] = .ok (.evtResync .receivedDataReady false 0x0050#16) := by decide
theorem test_decode_v16 : decode 0x00010080#32 [] = .ok (.evtResync .waiting true 0x0080#16) := by decide
theorem test_decode_v18 : decode 0x70010500#32 [] = .ok (.errNackEnd true 0x0500#16) := by decide
theorem test_decode_v19 : decode 0x70010200#32 [] = .ok (.errRecoverTx true 0x0200#16) := by decide
theorem test_decode_v20 : decode 0x60000400#32 [] = .ok (.errRecoverRx false 0x0400#16) := by decide
theorem test_decode_v23 : decode 0x50000800#32 [] = .ok (.errRecoverIdle .receivedDataReady false 0x0800#16) := by
  decide
theorem test_decode_v26 : decode 0x8001002A#32 [] = .ok (.tkInit true 0x2A#7) := by decide
theorem test_decode_v27 : decode 0x8000007F#32 [] = .ok (.tkInit false 0x7F#7) := by decide
theorem test_decode_v28 : decode 0x81000000#32 pktA = .ok (.tkEnqueue pktA) := by decide
theorem test_decode_v29 : decode 0x82000000#32 [] = .ok .tkPoll := by decide
theorem test_decode_v30 : decode 0x83000000#32 [] = .ok .tkRegister := by decide
theorem test_decode_v31 : decode 0x84000000#32 [] = .ok .tkTeardown := by decide
theorem test_decode_v32 : decode 0xC0010000#32 [] = .ok (.busAddr true) := by decide
theorem test_decode_v33 : decode 0xC0000000#32 [] = .ok (.busAddr false) := by decide
theorem test_decode_v34 : decode 0xC100005A#32 [] = .ok (.busWrite 0x5A#8) := by decide
theorem test_decode_v35 : decode 0xC2010000#32 [] = .ok (.busRead true) := by decide
theorem test_decode_v36 : decode 0xC2000000#32 [] = .ok (.busRead false) := by decide
theorem test_decode_v37 : decode 0xC3000000#32 [] = .ok .busStop := by decide
theorem test_decode_v39 : decode 0xC4000500#32 [] = .ok (.busFault 0x05#8) := by decide
theorem test_decode_v40 : decode 0xC400DF00#32 [] = .ok (.busFault 0xDF#8) := by decide
theorem test_decode_v42 : decode 0x85000000#32 [] = .error .opReserved := by decide
theorem test_decode_v43 : decode 0x80000080#32 [] = .error .unusedNotZero := by decide
theorem test_decode_v44 : decode 0x82010000#32 [] = .error .unusedNotZero := by decide
theorem test_decode_v45 : decode 0x82000001#32 [] = .error .unusedNotZero := by decide
theorem test_decode_v46 : decode 0x90000000#32 [] = .error .stageNotZero := by decide
theorem test_decode_v47 : decode 0xC0020000#32 [] = .error .resNotZero := by decide
theorem test_decode_v48 : decode 0xC5000000#32 [] = .error .opReserved := by decide
theorem test_decode_v49 : decode 0xC4002000#32 [] = .error .unusedNotZero := by decide
theorem test_decode_v50 : decode 0xC4000101#32 [] = .error .unusedNotZero := by decide
theorem test_decode_v51 : decode 0xC3010000#32 [] = .error .unusedNotZero := by decide
theorem test_decode_v52 : decode 0xC1010000#32 [] = .error .unusedNotZero := by decide
/-- A handler word with OP not 0000 (rule R84). -/
theorem test_decode_handler_op : decode 0x01000002#32 [] = .error .opReserved := by decide

/-- Every word of vectors V1 to V24 encodes the row and fields it is listed with. -/
theorem test_encode_handler_words :
    [encode (.evtAddrRead .transmitting 0x0082#16), encode (.evtAddrWrite .receivedDataReady 0x0002#16),
      encode (.evtTxResync true 0x0040#16), encode (.evtResync .waiting false 0x0010#16),
      encode (.errRecoverRx false 0x0140#16), encode (.errRecoverIdle .waiting true 0x0100#16)]
      = [0x30010082#32, 0x10000002#32, 0x30010040#32, 0x00000010#32, 0x60000140#32, 0x40010100#32] := by decide

/-! ## Access primitives (vectors M1 to M10) -/

/-- Registers with the given SR1. -/
def regsWith (sr1 : Reg) : Regs := { clean.regs with sr1 := sr1 }

theorem test_m1 :
    (regsWith 0x0012#16).readSR1
      = (0x0012#16, { regsWith 0x0012#16 with addrArmed := true, stopfArmed := true }) := by decide
theorem test_m2 : ({ regsWith 0x0002#16 with addrArmed := true } : Regs).readSR2.2 = regsWith 0x0000#16 := by decide
theorem test_m3 : (regsWith 0x0002#16).readSR2.2 = regsWith 0x0002#16 := by decide
theorem test_m4 :
    ({ regsWith 0x0010#16 with stopfArmed := true } : Regs).writeCR1 0x4401#16 = regsWith 0x0000#16 := by decide
theorem test_m5 : (regsWith 0x0010#16).touchCR1 = regsWith 0x0010#16 := by decide
theorem test_m6 : (regsWith 0x0F52#16).writeSR1 0x0000#16 = regsWith 0x0052#16 := by decide
theorem test_m7 : (regsWith 0x0580#16).writeSR1 0xFBFF#16 = regsWith 0x0180#16 := by decide
theorem test_m8 :
    ({ regsWith 0x0040#16 with dr := 0x5A#8 } : Regs).readDR
      = (0x5A#8, { regsWith 0x0000#16 with dr := 0x5A#8 }) := by decide
theorem test_m9 : (regsWith 0x0080#16).writeDR 0x11#8 = { regsWith 0x0000#16 with dr := 0x11#8 } := by decide
theorem test_m10 : (regsWith 0x0100#16).writeSR1 0xFFFF#16 = regsWith 0x0100#16 := by decide

/-! ## Interrupt lines (vectors L1 to L8) -/

/-- Both lines and both enabling conditions. -/
def lines (s : State) : Bool × Bool × Bool × Bool := (s.evLine, s.erLine, s.evEnabled, s.erEnabled)

theorem test_l1 : lines (at_ .waiting 0x0080#16) = (true, false, true, false) := by decide
theorem test_l2 : lines (at_ .waiting 0x0400#16) = (false, true, false, true) := by decide
theorem test_l3 : lines (at_ .waiting 0x0000#16) = (false, false, false, false) := by decide
theorem test_l4 : lines (at_ .waiting 0x0480#16) = (true, true, true, true) := by decide
theorem test_l5 :
    lines { at_ .waiting 0x0480#16 with cfg := { Params.default with irqOrder := .evFirst } }
      = (true, true, true, false) := by decide
theorem test_l6 :
    lines { at_ .waiting 0x0480#16 with cfg := { Params.default with irqOrder := .erFirst } }
      = (true, true, false, true) := by decide
theorem test_l7 : gives (exec .tkTeardown (at_ .waiting 0x0480#16)) lines = some (false, false, false, false) := by
  decide
theorem test_l8 : lines { at_ .waiting 0x0080#16 with fault := some .reinit } = (true, false, false, false) := by
  decide

/-! ## Event handler (vectors EV1 to EV24) -/

/-- What an EV or ER step is tested by: the stage, the queue, SR1, CR1, DR and the diagnostics. -/
structure Seen where
  stage : Stage
  txq : List Packet
  sr1 : Reg
  cr1 : Reg
  dr : Byte
  diag : List DiagRecord
  deriving DecidableEq, Repr

def seen (s : State) : Seen := ⟨s.stage, s.txq, s.regs.sr1, s.regs.cr1, s.regs.dr, s.out.diag⟩

theorem test_ev1 :
    gives (step (chosen { reading .waiting 0x0082#16 with txq := [pktA, pktB] } .ev)) seen
      = some ⟨.transmitting pktA 0, [pktB], 0x0080#16, 0x0401#16, 0x00#8, []⟩ := by decide
theorem test_ev3 :
    gives (step (chosen { reading .waiting 0x0082#16 with
        txq := [pktA], cfg := { Params.default with txSource := .alwaysDefault } } .ev)) seen
      = some ⟨.transmitting pktZ 0, [pktA], 0x0080#16, 0x0401#16, 0x00#8, []⟩ := by decide
theorem test_ev5 :
    gives (step (chosen { at_ .waiting 0x0002#16 with txq := [pktA] } .ev)) seen
      = some ⟨.receiving [], [pktA], 0x0000#16, 0x0401#16, 0x00#8, []⟩ := by decide
theorem test_ev6 :
    gives (step (chosen (at_ (.receiving pktA) 0x0012#16) .ev)) seen
      = some ⟨.receiving [], [], 0x0010#16, 0x0401#16, 0x00#8, []⟩ := by decide
theorem test_ev8 :
    gives (step (chosen (reading (.transmitting pktA 16) 0x0080#16) .ev)) seen
      = some ⟨.transmitting pktA 17, [], 0x0000#16, 0x0401#16, 0x11#8, []⟩ := by decide
theorem test_ev10 :
    gives (step (chosen (reading (.transmitting pktA 255) 0x0080#16) .ev)) seen
      = some ⟨.transmitting pktA 255, [], 0x0000#16, 0x0401#16, 0x00#8, []⟩ := by decide
theorem test_ev11 :
    gives (step (chosen (at_ (.transmitting pktA 17) 0x0010#16) .ev)) seen
      = some ⟨.transmitting pktA 17, [], 0x0000#16, 0x0401#16, 0x00#8, []⟩ := by decide
theorem test_ev12 :
    gives (step (chosen (reading (.transmitting pktA 3) 0x0050#16) .ev)) seen
      = some ⟨.transmitting pktA 3, [], 0x0000#16, 0x0401#16, 0x00#8, []⟩ := by decide
theorem test_ev14 :
    gives (step (chosen { at_ (.receiving (List.replicate 64 0x55#8)) 0x0040#16 with
        regs := { regsWith 0x0040#16 with dr := 0x99#8 } } .ev)) seen
      = some ⟨.receiving (List.replicate 64 0x55#8), [], 0x0000#16, 0x0401#16, 0x99#8, [.rxOverflow 0x99#8]⟩ := by
  decide
theorem test_ev15 :
    gives (step (chosen { at_ (.receiving (pktA.take 16)) 0x0050#16 with
        regs := { regsWith 0x0050#16 with dr := 0x11#8 } } .ev)) seen
      = some ⟨.receiving pktA, [], 0x0010#16, 0x0401#16, 0x11#8, []⟩ := by decide
theorem test_ev16 :
    gives (step (chosen { at_ (.receiving pktA) 0x0010#16 with wake := .registered, task := .suspended } .ev))
        (fun t => (seen t, t.wake, t.task))
      = some (⟨.receivedDataReady pktA, [], 0x0000#16, 0x0001#16, 0x00#8, []⟩, .empty, .polling) := by decide
theorem test_ev18 :
    gives (step (chosen { at_ (.receiving (pktA ++ [0x12#8])) 0x0010#16 with task := .registering } .ev))
        (fun t => (seen t, t.wake, t.task))
      = some (⟨.receivedDataReady pktZ, [], 0x0000#16, 0x0001#16, 0x00#8, [.lenMismatch 18]⟩, .empty, .registering) := by
  decide
theorem test_ev21 :
    gives (step (chosen (at_ (.receiving []) 0x0080#16) .ev)) seen
      = some ⟨.receiving [], [], 0x0080#16, 0x0401#16, 0x00#8, []⟩ := by decide
theorem test_ev_resync_ready :
    gives (step (chosen (ready 0x0050#16) .ev)) seen
      = some ⟨.receivedDataReady pktA, [], 0x0000#16, 0x0001#16, 0x00#8, []⟩ := by decide

/-! ## Error handler (vectors ER1 to ER10) -/

theorem test_er2 :
    gives (step (chosen (reading (.transmitting pktA 3) 0x0400#16) .er)) seen
      = some ⟨.waiting, [], 0x0000#16, 0x0401#16, 0x00#8, []⟩ := by decide
theorem test_er3 :
    gives (step (chosen (reading (.transmitting pktA 3) 0x0500#16) .er)) seen
      = some ⟨.waiting, [], 0x0100#16, 0x0401#16, 0x00#8, []⟩ := by decide
theorem test_er10 :
    gives (step (chosen (reading (.transmitting pktA 5) 0x0280#16) .er)) seen
      = some ⟨.waiting, [], 0x0080#16, 0x0401#16, 0x00#8, [.fault 0x02#8]⟩ := by decide
theorem test_er6 :
    gives (step (chosen { at_ (.receiving [0x55#8]) 0xDF50#16 with
        regs := { regsWith 0xDF50#16 with dr := 0x66#8 } } .er)) seen
      = some ⟨.waiting, [], 0x0000#16, 0x0401#16, 0x66#8, [.fault 0xDF#8]⟩ := by decide
theorem test_er7 :
    gives (step (chosen (at_ (.receiving [0x55#8]) 0x0102#16) .er)) seen
      = some ⟨.waiting, [], 0x0000#16, 0x0401#16, 0x00#8, [.fault 0x01#8]⟩ := by decide
theorem test_er8 :
    gives (step (chosen { ready 0x0800#16 with wake := .registered, task := .suspended } .er))
        (fun t => (seen t, t.wake, t.task))
      = some (⟨.waiting, [], 0x0000#16, 0x0401#16, 0x00#8, [.fault 0x08#8]⟩, .registered, .suspended) := by decide
theorem test_diag_codes :
    [DiagRecord.code (.rxOverflow 0x99#8), DiagRecord.code (.lenMismatch 18), DiagRecord.code (.fault 0xDF#8)]
      = [0x0199#16, 0x0212#16, 0x03DF#16] := by decide

/-! ## Task port (vectors TK1 to TK20) -/

theorem test_tk1 :
    gives (exec (.tkInit false 0x2A#7) State.reset)
        (fun t => (t.regs.cr1, t.regs.cr2, t.regs.oar1, t.regs.oar2, t.life))
      = some (0x0401#16, 0x0710#16, 0x4054#16, 0x0000#16, .active) := by decide
theorem test_tk6 :
    gives (exec (.tkInit true 0x2A#7) clean) (fun t => (t.fault, t.life)) = some (some .panicInitInIsr, .active) := by
  decide
theorem test_tk8 :
    gives (exec (.tkEnqueue pktA) { clean with txq := List.replicate 16 pktB }) (fun t => (t.txq.length, t.out.enqResults))
      = some (16, [.rejected pktA]) := by decide
theorem test_tk9 :
    gives (exec (.tkEnqueue pktA) { clean with txq := List.replicate 15 pktB })
        (fun t => (t.txq.drop 15, t.out.enqResults))
      = some ([pktA], [.ok]) := by decide
theorem test_tk10 :
    gives (exec .tkPoll { ready 0x0000#16 with task := .polling })
        (fun t => (t.out.delivered, t.stage, t.regs.cr1, t.task))
      = some ([pktA], .waiting, 0x0401#16, .idle) := by decide
theorem test_tk12 :
    gives (exec .tkPoll { clean with cfg := { Params.default with pollRegisterAtomic := true } })
        (fun t => (t.task, t.wake))
      = some (.suspended, .registered) := by decide
theorem test_tk14 :
    gives (exec .tkRegister { clean with task := .registering }) (fun t => (t.task, t.wake))
      = some (.suspended, .registered) := by decide
theorem test_tk16 : gives (exec .tkRegister clean) id = some clean := by decide
theorem test_tk17 :
    gives (exec .tkTeardown { at_ (.receiving [0x01#8, 0x02#8]) 0x0000#16 with
        txq := [pktA, pktB], task := .suspended, wake := .registered })
        (fun t => (t.life, t.clkEn, t.txq, t.task, t.wake))
      = some (.released, false, [], .idle, .empty) := by decide
theorem test_tk7 : gives (exec .tkTeardown State.reset) (fun t => t.fault) = some (some .notConstructed) := by decide

/-! ## Bus agent (vectors BUS1 to BUS21) -/

/-- What a BUS step is tested by: SR1, SR2, DR, the phase and the host's bytes. -/
structure BusSeen where
  sr1 : Reg
  sr2 : Reg
  dr : Byte
  phase : BusPhase
  hostRx : List Byte
  deriving DecidableEq, Repr

def busSeen (s : State) : BusSeen := ⟨s.regs.sr1, s.regs.sr2, s.regs.dr, s.busPhase, s.out.hostRx⟩

theorem test_bus5 :
    gives (exec (.busAddr true) { at_ .waiting 0x0040#16 with busPhase := .rx }) busSeen
      = some ⟨0x00C2#16, 0x0006#16, 0x00#8, .tx, []⟩ := by decide
theorem test_bus3 : gives (exec (.busAddr false) (ready 0x0000#16)) id = some (ready 0x0000#16) := by decide
theorem test_bus6 :
    gives (exec (.busWrite 0x5A#8) { at_ (.receiving []) 0x0000#16 with busPhase := .rx }) busSeen
      = some ⟨0x0040#16, 0x0000#16, 0x5A#8, .rx, []⟩ := by decide
theorem test_bus7 :
    gives (exec (.busWrite 0x5B#8) { at_ (.receiving []) 0x0040#16 with busPhase := .rx }) busSeen
      = some ⟨0x0040#16, 0x0000#16, 0x00#8, .rx, []⟩ := by decide
theorem test_bus9 :
    gives (exec (.busRead true) { reading (.transmitting pktA 1) 0x0000#16 with
        regs := { regsWith 0x0000#16 with dr := 0x11#8 } }) busSeen
      = some ⟨0x0080#16, 0x0000#16, 0x11#8, .tx, [0x11#8]⟩ := by decide
theorem test_bus11 :
    gives (step (chosen { reading (.transmitting pktA 1) 0x0000#16 with
        regs := { regsWith 0x0000#16 with dr := 0x11#8 } } (.drawing (.busRead false) true))) busSeen
      = some ⟨0x0480#16, 0x0000#16, 0x11#8, .txNacked, [0x11#8]⟩ := by decide
theorem test_bus14 :
    gives (exec .busStop { at_ (.receiving []) 0x0040#16 with
        busPhase := .rx, regs := { regsWith 0x0040#16 with sr2 := 0x0002#16 } }) busSeen
      = some ⟨0x0050#16, 0x0000#16, 0x00#8, .idle, []⟩ := by decide
theorem test_bus15 :
    gives (step (chosen { reading .waiting 0x0080#16 with busPhase := .txNacked } (.drawing .busStop false))) busSeen
      = some ⟨0x0000#16, 0x0000#16, 0x00#8, .idle, []⟩ := by decide
theorem test_bus18 :
    gives (exec (.busFault 0x09#8) (at_ .waiting 0x0040#16)) busSeen
      = some ⟨0x0940#16, 0x0000#16, 0x00#8, .idle, []⟩ := by decide
theorem test_bus19 :
    gives (exec (.busFault 0x01#8) (at_ .waiting 0x0100#16)) busSeen
      = some ⟨0x0100#16, 0x0000#16, 0x00#8, .idle, []⟩ := by decide

/-! ## A concrete state and operands for the hypotheses of every statement that has some

Each theorem is named after its statement; where a statement has several clauses there is one part for each clause. -/

theorem test_hyp_DecodeEncodeAgree : (Instr.evtRxStop true 0xDF1D#16).wellFormed 17 = true := by decide

theorem test_hyp_DecodedWordReencodes : decode 0x8001007F#32 [] = .ok (.tkInit true 0x7F#7) := by decide

theorem test_hyp_DecoderFollowsOpcodeMap :
    decode 0xC400DF00#32 [] = .ok (.busFault 0xDF#8) ∧ decode 0xC400FF00#32 [] = .error .unusedNotZero := by decide

theorem test_hyp_StepRunsTheDecodedInstruction :
    let s := calling clean { op := .enqueue pktA }
    s.marked = false ∧ s.cfg.admitted = true ∧ s.fetch = (some (Instr.item (.tkEnqueue pktA)), clean)
      ∧ decode (Instr.item (.tkEnqueue pktA)).word (Instr.item (.tkEnqueue pktA)).operand = .ok (.tkEnqueue pktA)
      ∧ (Instr.tkEnqueue pktA).wellFormed s.cfg.packetLen = true := by decide

theorem test_hyp_LineChoiceRunsTheFormedWord :
    (chosen clean .ev).marked = false ∧ (chosen clean .ev).cfg.admitted = true
      ∧ (chosen clean .ev).run.sched = [.ev] ∧ (chosen clean .er).run.sched = [.er] := by decide

theorem test_hyp_ReservedWordIsRefused :
    let s := chosen clean (.word { word := 0x85000000#32 })
    s.marked = false ∧ s.cfg.admitted = true ∧ s.run.sched = [.word { word := 0x85000000#32 }]
      ∧ decode 0x85000000#32 [] = .error .opReserved := by decide

theorem test_hyp_MarkedStateTakesNoStep :
    (clean.raise .reinit).fault ≠ none ∧ (clean.refuse .unmapped).refused ≠ none := by decide

/-- Each relation of rule R9 broken by one: 17 > 16, 256 = 2 ^ 8, 256 > 255, no queue. -/
theorem test_hyp_UnadmittedParametersAreRefused :
    clean.marked = false
      ∧ ({ Params.default with rxCap := 16 } : Params).admitted = false
      ∧ ({ Params.default with packetLen := 256, rxCap := 256 } : Params).admitted = false
      ∧ ({ Params.default with rxCap := 256 } : Params).admitted = false
      ∧ ({ Params.default with txqCap := 0 } : Params).admitted = false := by decide

/-- The receiver's call, chosen while it is SUSPENDED: it waits. -/
def heldCall : State := { calling clean { op := .enqueue pktA } with wake := .registered, task := .suspended }

/-- One state for each clause: a call that waits, a `receive()` that waits, a call of another task, a call of a POLLING
receiver, a call that is not the program's next one, a re-poll, and a registration, which faults outside ACTIVE. -/
theorem test_hyp_ApplicationCallsWaitWhileReceiving :
    (heldCall.marked = false ∧ heldCall.cfg.admitted = true ∧ heldCall.life = .active ∧ heldCall.task = .suspended)
      ∧ gives (step heldCall) id = some { heldCall with run := { heldCall.run with sched := [] } }
      ∧ gives (step { calling clean { op := .receive } with task := .registering }) (fun t => t.task)
        = some .registering
      ∧ gives (step { calling clean { op := .enqueue pktA, caller := .other } with task := .suspended })
          (fun t => t.txq)
        = some [pktA]
      ∧ gives (step { calling clean { op := .enqueue pktA } with task := .polling }) (fun t => t.txq) = some [pktA]
      ∧ gives (step { calling clean { op := .enqueue pktA } with run := (chosen clean (.of .tkTeardown)).run })
          (fun t => t.life)
        = some .active
      ∧ gives (step { chosen clean (.of .tkPoll) with task := .polling }) (fun t => t.task) = some .registering
      ∧ gives (step (chosen State.reset (.of .tkRegister))) (fun t => t.fault) = some (some .notConstructed) := by
  refine ⟨?_, ?_, ?_, ?_, ?_, ?_, ?_, ?_⟩ <;> decide

/-- `receive` (rule R98): the poll is the program's call; the registration follows exactly from REGISTERING. -/
theorem test_receive_macro :
    Macro.receive = [Choice.of .tkPoll, Choice.of .tkRegister]
      ∧ gives (step (calling clean { op := .receive })) (fun t => (t.task, t.run.prog)) = some (.registering, [])
      ∧ gives (step (chosen clean (.of .tkRegister))) (fun t => t.task) = some .idle := by
  refine ⟨?_, ?_, ?_⟩ <;> decide

/-- One state for each way a step is disabled. -/
theorem test_hyp_DisabledStepsAreNotTaken :
    (Instr.evtResync .waiting false 0x0000#16).isEv = true ∧ clean.evEnabled = false
      ∧ (Instr.errRecoverRx false 0x0000#16).isEr = true ∧ clean.erEnabled = false
      ∧ (Instr.busFault 0x01#8).isBus = true ∧ State.reset.busEnabled = false
      ∧ deadlock.life = .active ∧ deadlock.task = .suspended ∧ clean.task ≠ .registering
      ∧ (ready 0x0000#16).regs.ack = false ∧ (at_ .waiting 0x0002#16).regs.flag Sr1.addr = true
      ∧ clean.busPhase ≠ .rx ∧ (at_ .waiting 0x0040#16).regs.flag Sr1.rxne = true
      ∧ clean.busPhase ≠ .tx ∧ (reading .waiting 0x0080#16).regs.flag Sr1.txe = true ∧ clean.busPhase = .idle := by
  decide

/-- Each clause at the ends of its range of offsets. -/
theorem test_hyp_RegisterSpaceAccessesFollowTheMap :
    (clean.memRead 0x28 2).2 = clean.refuse .unmapped ∧ (clean.memRead 0x26 2).2 = clean.refuse .unmapped
      ∧ (clean.memRead 0x27 1).2 = clean.refuse .unmapped ∧ (clean.memRead 0x11 1).2 = clean.refuse .unmapped
      ∧ (clean.memRead 0x13 1).2 = clean.refuse .unmapped ∧ (clean.memRead 0x25 2).2 = clean.refuse .badWidth
      ∧ (clean.memRead 0x24 4).2 = clean.refuse .badWidth ∧ (clean.memRead 0x01 1).2 = clean.refuse .badWidth
      ∧ (clean.memRead 0x10 2).2 = clean.refuse .badWidth := by decide

/-- The first address of the map, and the last one below it. -/
theorem test_platform_base :
    let s : State := { clean with cfg := { Params.default with i2cBase := 0x100 } }
    s.platformRead 0x104 2 = (some 0x0710#16, s) ∧ (s.platformRead 0xFF 1).2 = s.refuse .unmapped := by decide

theorem test_hyp_AddressMatchClearsInOrder :
    ({ clean.regs with addrArmed := true } : Regs).addrArmed = true ∧ clean.regs.addrArmed = false := by decide

theorem test_hyp_DataAndControlAccessesClearFlags :
    ({ clean.regs with stopfArmed := true } : Regs).stopfArmed = true ∧ clean.regs.stopfArmed = false := by decide

theorem test_hyp_EvtAddrReadStartsTransmitting :
    let s := reading .waiting 0x0082#16
    s.evEnabled = true ∧ s.stage.tag = .waiting ∧ s.regs.tra = true ∧ s.regs.sr1 = 0x0082#16
      ∧ (0x0082#16 : Reg).getLsbD 1 = true := by decide

theorem test_hyp_EvtAddrWriteStartsReceiving :
    let s := at_ (.receiving pktA) 0x0012#16
    s.evEnabled = true ∧ s.stage.tag = .receiving ∧ s.regs.tra = false ∧ s.regs.sr1 = 0x0012#16
      ∧ (0x0012#16 : Reg).getLsbD 1 = true := by decide

theorem test_hyp_EvtTxByteSendsTheNextByte :
    let s := reading (.transmitting pktA 17) 0x0080#16
    s.evEnabled = true ∧ s.stage = .transmitting pktA 17 ∧ s.regs.tra = true ∧ s.regs.sr1 = 0x0080#16
      ∧ (0x0080#16 : Reg).getLsbD 1 = false ∧ (0x0080#16 : Reg).getLsbD 7 = true := by decide

/-- The three stages a resynchronisation runs in. -/
theorem test_hyp_ResynchronisationKeepsTheStage :
    let s := at_ (.transmitting pktA 3) 0x0050#16
    s.evEnabled = true ∧ s.stage.tag = .transmitting ∧ s.regs.tra = false ∧ s.regs.sr1 = 0x0050#16
      ∧ (0x0050#16 : Reg).getLsbD 1 = false ∧ (0x0050#16 : Reg).getLsbD 7 = false
      ∧ (at_ .waiting 0x0050#16).evEnabled = true ∧ (ready 0x0050#16).evEnabled = true
      ∧ (ready 0x0050#16).stage.tag = .receivedDataReady := by decide

/-- The last byte that is stored and the first that is dropped. -/
theorem test_hyp_EvtRxByteStoresOrDropsTheByte :
    let s := at_ (.receiving (List.replicate 63 0x55#8)) 0x0040#16
    s.evEnabled = true ∧ s.regs.tra = false ∧ s.regs.sr1 = 0x0040#16 ∧ (0x0040#16 : Reg).getLsbD 1 = false
      ∧ (0x0040#16 : Reg).getLsbD 6 = true ∧ (List.replicate 63 0x55#8).length < s.cfg.rxCap
      ∧ s.cfg.rxCap ≤ (List.replicate 64 0x55#8).length
      ∧ (at_ (.receiving (List.replicate 64 0x55#8)) 0x0040#16).evEnabled = true := by decide

theorem test_hyp_EvtRxStopCompletesTheTransfer :
    let s := at_ (.receiving pktA) 0x0010#16
    s.evEnabled = true ∧ s.stage = .receiving pktA ∧ s.regs.tra = false ∧ s.regs.sr1 = 0x0010#16
      ∧ (0x0010#16 : Reg).getLsbD 1 = false ∧ (0x0010#16 : Reg).getLsbD 6 = false
      ∧ (0x0010#16 : Reg).getLsbD 4 = true := by decide

theorem test_hyp_EvtRxIdleChangesNothing :
    let s := at_ (.receiving []) 0x0080#16
    s.evEnabled = true ∧ s.stage.tag = .receiving ∧ s.regs.tra = false ∧ s.regs.sr1 = 0x0080#16
      ∧ (0x0080#16 : Reg).getLsbD 1 = false ∧ (0x0080#16 : Reg).getLsbD 6 = false
      ∧ (0x0080#16 : Reg).getLsbD 4 = false := by decide

theorem test_hyp_EventHandlerFrame :
    (Instr.evtResync .waiting false 0x0050#16).isEv = true
      ∧ (gives (exec (.evtResync .waiting false 0x0050#16) (at_ .waiting 0x0050#16)) id).isSome = true := by decide

theorem test_hyp_ErrNackEndReturnsToWaiting :
    let s := reading (.transmitting pktA 3) 0x0500#16
    s.erEnabled = true ∧ s.stage.tag = .transmitting ∧ s.regs.tra = true ∧ s.regs.sr1 = 0x0500#16
      ∧ (0x0500#16 : Reg).getLsbD 10 = true := by decide

/-- The four stages a recovery runs in. -/
theorem test_hyp_ErrorRecoveryForcesWaiting :
    let s := reading (.transmitting pktA 5) 0x0280#16
    s.erEnabled = true ∧ s.stage.tag = .transmitting ∧ s.regs.tra = true ∧ s.regs.sr1 = 0x0280#16
      ∧ (0x0280#16 : Reg).getLsbD 10 = false ∧ (at_ (.receiving []) 0xDF50#16).erEnabled = true
      ∧ (at_ .waiting 0x0100#16).erEnabled = true ∧ (ready 0x0800#16).erEnabled = true := by decide

theorem test_hyp_ErrorHandlerFrame :
    (Instr.errRecoverRx false 0xDF50#16).isEr = true
      ∧ (gives (exec (.errRecoverRx false 0xDF50#16) (at_ (.receiving []) 0xDF50#16)) id).isSome = true := by decide

theorem test_hyp_AfterAnErrorStep :
    let s := at_ (.receiving []) 0xDF50#16
    let i : Instr := .errRecoverRx false 0xDF50#16
    i.isEr = true ∧ s.erEnabled = true ∧ s.regs.ReservedZero ∧ s.NeverSetFlags
      ∧ i.fields = Fields.handler 0b01#2 s.stage.tag s.regs.tra s.regs.sr1 ∧ i.wellFormed s.cfg.packetLen = true
      ∧ (gives (exec i s) id).isSome = true := by decide

theorem test_hyp_TkInitConstructsTheDriver :
    State.reset.marked = false ∧ State.reset.life = .unconstructed := by decide

theorem test_hyp_LifecycleFaultsSetOnlyTheMark :
    State.reset.marked = false ∧ State.reset.life = .unconstructed ∧ clean.life = .active
      ∧ ({ clean with life := .released } : State).life = .released := by decide

/-- The last packet that is queued and the first that is rejected. -/
theorem test_hyp_TkEnqueuePushesOrRejects :
    clean.marked = false ∧ clean.life = .active ∧ (List.replicate 15 pktB).length < clean.cfg.txqCap
      ∧ clean.cfg.txqCap ≤ (List.replicate 16 pktB).length := by decide

theorem test_hyp_TkPollDeliversOrRegisters :
    clean.marked = false ∧ clean.life = .active ∧ clean.task = .idle
      ∧ (ready 0x0000#16).stage = .receivedDataReady pktA ∧ clean.stage.tag ≠ .receivedDataReady
      ∧ clean.cfg.pollRegisterAtomic = false
      ∧ ({ Params.default with pollRegisterAtomic := true } : Params).pollRegisterAtomic = true := by decide

theorem test_hyp_TkRegisterSuspendsTheTask :
    let s : State := { clean with task := .registering }
    s.marked = false ∧ s.life = .active ∧ s.task = .registering := by decide

theorem test_hyp_TkTeardownReleasesTheDriver : clean.marked = false ∧ clean.life = .active := by decide

theorem test_hyp_EachReadyPacketIsDeliveredAtMostOnce :
    gives (step (calling (ready 0x0000#16) { op := .receive })) (fun t => (t.out.delivered, t.stage))
      = some ([pktA], .waiting) := by decide

theorem test_hyp_BusAddrRaisesTheAddressMatch :
    clean.busEnabled = true ∧ clean.regs.ack = true ∧ clean.regs.flag Sr1.addr = false := by decide

theorem test_hyp_BusWriteFillsTheDataRegister :
    let s : State := { at_ (.receiving []) 0x0000#16 with busPhase := .rx }
    s.busEnabled = true ∧ s.busPhase = .rx ∧ s.regs.flag Sr1.addr = false ∧ s.regs.flag Sr1.rxne = false
      ∧ s.regs.ack = true := by decide

theorem test_hyp_BusReadTakesTheDataRegister :
    let s := reading (.transmitting pktA 1) 0x0000#16
    s.busEnabled = true ∧ s.busPhase = .tx ∧ s.regs.flag Sr1.addr = false ∧ s.regs.flag Sr1.txe = false := by decide

theorem test_hyp_BusStopEndsTheTransfer :
    let s := reading .waiting 0x0080#16
    s.busEnabled = true ∧ s.regs.flag Sr1.addr = false ∧ s.busPhase = .tx
      ∧ ({ s with busPhase := .txNacked } : State).busEnabled = true := by decide

theorem test_hyp_BusFaultRaisesTheNamedFlags : clean.busEnabled = true ∧ (0xDF#8 : Byte).getLsbD 5 = false := by
  decide

theorem test_hyp_BusAgentFrame :
    (Instr.busAddr true).isBus = true ∧ (gives (exec (.busAddr true) clean) id).isSome = true := by decide

theorem test_hyp_OutputRecordsAreNeverShortened :
    (gives (step (chosen clean (.otherEnqueue pktA))) id).isSome = true := by decide

theorem test_hyp_MarksAreSticky :
    let s := calling clean { op := .init false 0x2A#7 }
    gives (step s) (fun t => t.fault) = some (some .reinit) ∧ s.nextInstr = some (.tkInit false 0x2A#7)
      ∧ (clean.raise .reinit).fault = some .reinit ∧ (clean.refuse .unmapped).refused = some .unmapped := by decide

theorem test_hyp_OnlyTheNamedStepsWriteTheEngineState :
    gives (exec (.evtAddrRead .waiting 0x0082#16) { reading .waiting 0x0082#16 with txq := [pktA] })
        (fun t => (t.stage, t.txq))
      = some (.transmitting pktA 0, []) := by decide

theorem test_hyp_SuspendedTaskIsWokenOnlyByAStop :
    let s := chosen { at_ (.receiving pktA) 0x0010#16 with wake := .registered, task := .suspended } .ev
    s.task = .suspended ∧ gives (step s) (fun t => (t.task, t.wake)) = some (.polling, .empty) := by decide

theorem test_hyp_NoStepChangesTheParameters : (gives (step (chosen clean .ev)) id).isSome = true := by decide

theorem test_hyp_ReservedBitsStayZero :
    let s := chosen clean (.of (.busAddr true))
    s.regs.ReservedZero ∧ (gives (step s) id).isSome = true := by decide

theorem test_hyp_QueueAndStageStayBounded :
    let s := chosen { reading .waiting 0x0082#16 with txq := [pktA, pktB] } .ev
    s.Bounded ∧ (gives (step s) id).isSome = true := by decide

theorem test_hyp_ConfigurationIsKept :
    let s := chosen (at_ (.receiving pktA) 0x0010#16) .ev
    s.ActiveConfigured ∧ s.DisabledOutside ∧ (gives (step s) id).isSome = true := by decide

theorem test_hyp_AckIsWithheldExactlyWhenReady :
    let s := calling (ready 0x0000#16) { op := .receive }
    s.AckMatchesStage ∧ (gives (step s) (fun t => t.regs.ack)) = some true := by decide

theorem test_hyp_WaiterAndTaskAgree :
    let s := chosen { at_ (.receiving pktA) 0x0010#16 with wake := .registered, task := .suspended } .ev
    s.WaiterAgrees ∧ (gives (step s) (fun t => t.task)) = some .polling := by decide

theorem test_hyp_NothingMovesBeforeConstruction :
    let s := chosen State.reset (.of (.busAddr true))
    s.UntouchedBeforeInit ∧ s.life = .unconstructed ∧ (gives (step s) id).isSome = true := by decide

/-- A host write whose address match is not yet served, the EV line chosen. -/
def addressed : State := chosen { at_ .waiting 0x0002#16 with busPhase := .rx } .ev

theorem test_hyp_TransferFlagsStayConsistent :
    addressed.NeverSetFlags ∧ addressed.TransferAgrees ∧ addressed.UntouchedBeforeInit
      ∧ (gives (step addressed) id).isSome = true := by
  refine ⟨?_, ?_, ?_, ?_⟩ <;> decide

/-- A host write between two bytes. -/
def betweenBytes : State := { at_ (.receiving []) 0x0000#16 with busPhase := .rx }

theorem test_hyp_EvtRxIdleIsUnreachable :
    betweenBytes.NeverSetFlags ∧ betweenBytes.TransferAgrees ∧ betweenBytes.stage.tag = .receiving
      ∧ betweenBytes.regs.flag Sr1.addr = false ∧ betweenBytes.regs.flag Sr1.rxne = false
      ∧ betweenBytes.regs.flag Sr1.stopf = false := by
  refine ⟨?_, ?_, ?_, ?_, ?_, ?_⟩ <;> decide

theorem test_hyp_LostWakeupIsADeadlock :
    let s := chosen deadlock (.of .busStop)
    s.life = .active ∧ s.stage = .receivedDataReady pktA ∧ s.regs.ack = false ∧ s.wake = .registered
      ∧ s.task = .suspended ∧ s.regs.flag Sr1.addr = false ∧ faultByte s.regs.sr1 = 0#8 ∧ s.busPhase ≠ .tx
      ∧ (gives (step s) id).isSome = true ∧ s.nextInstr = some .busStop := by decide

/-! ## Executions without end -/

/-- After `ERR_NACK_END` with `TXE_AFTER_NACK = 1` (rule R254): TXE holds the EV line and the host has not stopped. -/
def heldTxe : State := { reading .waiting 0x0080#16 with busPhase := .txNacked }

/-- One EV step of the livelock: it is enabled, it is `EVT_RESYNC`, and it changes nothing. -/
theorem test_livelock_step :
    gives (step (heldTxe.choosing .ev)) id = some heldTxe ∧ heldTxe.evEnabled = true
      ∧ (heldTxe.choosing .ev).nextInstr = some (.evtResync .waiting true 0x0080#16) := by
  refine ⟨?_, ?_, ?_⟩ <;> decide

/-- Rule R254: the infinite run in which the host never acts again is an execution, and it meets the weak fairness of
rule R216, so it refutes a claim of termination that does not take the premise `HostCompletes`. -/
theorem test_livelock_is_a_fair_execution :
    Execution (fun _ => .ev) (fun _ => heldTxe) ∧ FairHandlers (fun _ => .ev) (fun _ => heldTxe)
      ∧ ¬HostCompletes (fun _ => .ev) (fun _ => heldTxe) := by
  have he : heldTxe.erEnabled = false ∧ heldTxe.pollable = false := by decide
  have hi : heldTxe.stepEnabled (.evtResync .waiting true 0x0080#16) = true := by decide
  refine ⟨fun _ => next_of_gives test_livelock_step.1,
    ⟨fun n _ => ⟨n, _, le_refl n, ⟨test_livelock_step.2.2, hi⟩, rfl⟩, fun n h => ?_, fun n h => ?_⟩, fun h => ?_⟩
  · exact absurd (he.1.symm.trans (h n (le_refl n))) (by decide)
  · exact absurd (he.2.symm.trans (h n (le_refl n))) (by decide)
  · obtain ⟨m, _, ⟨hm, _⟩, _⟩ := h 0 (by decide)
    exact absurd (test_livelock_step.2.2.symm.trans hm) (by decide)

/-- A stop that completes nothing: `EVT_RX_STOP` is chosen while the task is REGISTERING, but the EV step is disabled. -/
def idleRegistering : State := { at_ (.receiving []) 0x0000#16 with task := .registering, busPhase := .rx }

/-- A chosen but disabled `EVT_RX_STOP` has not run, so it does not break the premise `AtomicRegister`. -/
theorem test_disabled_stop_does_not_run :
    takenAt (fun _ => .of (.evtRxStop false 0x0010#16)) (fun _ => idleRegistering) 0 = some (.evtRxStop false 0x0010#16)
      ∧ idleRegistering.stepEnabled (.evtRxStop false 0x0010#16) = false := by
  refine ⟨?_, ?_⟩ <;> decide

/-- A refusal that stands keeps its reason (rule R44). -/
theorem test_first_refusal_stands :
    (((clean.memRead 0x28 2).2).memRead 0x24 4).2.refused = some .unmapped := by decide

/-! ## The host's entry points: a table word decodes, and the step after placing it runs it -/

theorem test_table_word :
    decodeTableWord 32 0x00010002 = some (.evtAddrRead .waiting 0x0002#16)
      ∧ decodeTableWord 32 0x81000000 = some (.tkEnqueue pktZ) ∧ decodeTableWord 32 0x85000000 = none := by decide

theorem test_placed_words :
    gives (step (State.reset.withFetchWord 32 0x00010002)) (fun t => t.stage) = some (.transmitting pktZ 0)
      ∧ gives (step (State.reset.withFetchWord 32 0x70000400)) (fun t => t.stage) = some .waiting
      ∧ gives (step (State.reset.withFetchWord 32 0x8000002A)) (fun t => t.life) = some .active
      ∧ gives (step (State.reset.withFetchWord 32 0xC0010000)) (fun t => t.busPhase) = some .tx := by decide

/-- A run that ends with a mark is over and not good (vector program 10). -/
theorem test_over_not_good :
    let s : State := { State.reset with run := { State.reset.run with
      prog := [{ op := .enqueue pktA }, { op := .init false 0x2A#7 }], sched := [.of (.tkEnqueue pktA)] } }
    gives (step s) (fun t => (t.fault, t.over, t.good)) = some (some .notConstructed, true, false) := by decide

end Sys2Proof.Tests
end

section
/-! The instructions as bodies: when an instruction runs, what it does to the state, and what a step can do, each said
once. -/

namespace Sys2Proof

open Machine

/-- What the step of an instruction does where it runs: the arm or body its meaning gates (`exec_effect`). -/
def Instr.body : Instr → State → State
  | .evtAddrRead _ _ => State.armAddrRead
  | .evtAddrWrite _ _ => State.armAddrWrite
  | .evtTxByte _ _ => State.armTxByte
  | .evtTxResync _ snap | .evtResync _ _ snap => State.armResync snap
  | .evtRxByte _ _ => State.armRxByte
  | .evtRxStop _ _ => State.armRxStop
  | .evtRxIdle _ _ => State.enterHandler
  | .errNackEnd _ _ => State.armNackEnd
  | .errRecoverTx _ snap | .errRecoverRx _ snap | .errRecoverIdle _ _ snap => State.armRecover snap
  | .tkInit _ a => State.construct a
  | .tkEnqueue p => State.enqueue p
  | .tkPoll => State.poll
  | .tkRegister => State.register
  | .tkTeardown => State.teardown
  | .busAddr rw => State.busAddr rw
  | .busWrite b => State.busWrite b
  | .busRead true => State.busReadAck
  | .busRead false => State.busReadNack
  | .busStop => State.busStop
  | .busFault flags => State.busFault flags

/-- Every instruction belongs to one of the four agents (rule R82). -/
theorem Instr.agent_cases (i : Instr) : i.isEv = true ∨ i.isEr = true ∨ i.isTk = true ∨ i.isBus = true := by
  simp only [Instr.isEv, Instr.isEr, Instr.isTk, Instr.isBus]
  generalize i.fields.src = src
  revert src
  decide

/-- The admitted parameters are those in the relations of rule R9. -/
theorem Params.admitted_iff (c : Params) :
    c.admitted = true ↔
      c.packetLen ≤ c.rxCap ∧ c.packetLen < 2 ^ c.cursorW ∧ c.rxCap ≤ 255 ∧ 1 ≤ c.txqCap := by
  simp [Params.admitted, and_assoc]

@[simp] theorem Params.length_defaultPacket (c : Params) : c.defaultPacket.length = c.packetLen := by
  simp [Params.defaultPacket]

end Sys2Proof

namespace Sys2Proof.Machine

/-- An instruction of a handler or of the bus agent is its body behind one enabling condition. -/
theorem exec_eq_attempt {i : Instr} (hi : i.isTk = false) (s : State) : ∃ en, exec i s = s.attempt en i.body := by
  cases i with
  | tkInit _ _ | tkEnqueue _ | tkPoll | tkRegister | tkTeardown => cases hi
  | busRead ack => cases ack <;> exact ⟨_, rfl⟩
  | _ => exact ⟨_, rfl⟩

/-! ### When an instruction can run -/

/-- The step of an EV row is enabled where the handler is and the state forms its word. -/
theorem stepEnabled_of_isEv {i : Instr} (hi : i.isEv = true) (s : State) :
    s.stepEnabled i = (s.evEnabled && s.formsInstr 0b00#2 i) := by
  cases i with
  | evtAddrRead | evtAddrWrite | evtTxByte | evtTxResync | evtRxByte | evtRxStop | evtRxIdle | evtResync => rfl
  | _ => cases hi

/-- The step of an ER row is enabled where the handler is and the state forms its word. -/
theorem stepEnabled_of_isEr {i : Instr} (hi : i.isEr = true) (s : State) :
    s.stepEnabled i = (s.erEnabled && s.formsInstr 0b01#2 i) := by
  cases i with
  | errNackEnd | errRecoverTx | errRecoverRx | errRecoverIdle => rfl
  | _ => cases hi

/-- The step of a BUS row is enabled only where the bus agent is. -/
theorem busEnabled_of_stepEnabled {i : Instr} {s : State} (hi : i.isBus = true) (h : s.stepEnabled i = true) :
    s.busEnabled = true := by
  cases i with
  | busAddr | busWrite | busRead | busStop | busFault =>
    simp_all [State.stepEnabled, State.busAddrEnabled, State.busWriteEnabled, State.busReadEnabled, State.busStopEnabled]
  | _ => cases hi

theorem State.evEnabled_unmarked_active {s : State} (h : s.evEnabled = true) : s.marked = false ∧ s.life = .active := by
  simp_all [State.evEnabled]

theorem State.erEnabled_unmarked_active {s : State} (h : s.erEnabled = true) : s.marked = false ∧ s.life = .active := by
  simp_all [State.erEnabled]

theorem State.busEnabled_unmarked_active {s : State} (h : s.busEnabled = true) :
    s.marked = false ∧ s.life = .active := by
  simp_all [State.busEnabled]

/-- A handler's or the bus agent's step is enabled only in an unmarked state with a live driver. -/
theorem stepEnabled_unmarked_active {i : Instr} {s : State} (hi : i.isTk = false) (h : s.stepEnabled i = true) :
    s.marked = false ∧ s.life = .active := by
  rcases i.agent_cases with hev | her | htk | hbus
  · rw [stepEnabled_of_isEv hev] at h
    exact State.evEnabled_unmarked_active (Bool.and_elim_left h)
  · rw [stepEnabled_of_isEr her] at h
    exact State.erEnabled_unmarked_active (Bool.and_elim_left h)
  · simp [hi] at htk
  · exact State.busEnabled_unmarked_active (busEnabled_of_stepEnabled hbus h)

/-! ### What an instruction can do -/

/-- The lifecycle under which an instruction runs: a live driver, or none yet for the construction (rules R151, R152). -/
def State.runsIn (s : State) (i : Instr) : Prop :=
  s.life = .active ∨ s.life = .unconstructed ∧ ∃ a, i = .tkInit false a

/-- Everything the instruction `i` can do in `s` (`exec_effect`). -/
inductive ExecEffect (i : Instr) (s : State) : State → Prop
  /-- It is not taken (rules R14, R82). -/
  | skipped : ExecEffect i s s
  /-- A TK step outside its lifecycle raises a fault (rules R151, R152, R205). -/
  | faulted (f : Fault) (htk : i.isTk = true) (hm : s.marked = false) : ExecEffect i s (s.raise f)
  /-- Its step is enabled, and its body runs. -/
  | ran (hm : s.marked = false) (he : s.stepEnabled i = true) (hl : s.runsIn i) : ExecEffect i s (i.body s)

/-- The effect of an instruction that stands behind the lifecycle gate. -/
theorem execEffect_of_tkGate {i : Instr} {s t : State} {body : State → State} (h : s.tkGate body = .next t)
    (htk : i.isTk = true) (he : s.stepEnabled i = true) (hb : s.life = .active → body s = i.body s) :
    ExecEffect i s t := by
  rcases tkGate_next h with ⟨-, rfl⟩ | ⟨hm, -, rfl⟩ | ⟨hm, -, rfl⟩ | ⟨hm, hl, rfl⟩
  · exact .skipped
  · exact .faulted _ htk hm
  · exact .faulted _ htk hm
  · rw [hb hl]
    exact .ran hm he (.inl hl)

/-- Everything an instruction can do: nothing, the fault mark of a TK step, or its body where its step is enabled. -/
theorem exec_effect {i : Instr} {s t : State} (h : exec i s = .next t) : ExecEffect i s t := by
  cases he : s.stepEnabled i with
  | false =>
    rw [exec_disabled he] at h
    cases h
    exact .skipped
  | true =>
    cases htk : i.isTk with
    | false =>
      obtain ⟨en, hx⟩ := exec_eq_attempt htk s
      obtain ⟨hm, hl⟩ := stepEnabled_unmarked_active htk he
      rcases attempt_next (hx.symm.trans h) with ⟨-, rfl⟩ | ⟨-, rfl⟩
      · exact .ran hm he (.inl hl)
      · exact .skipped
    | true =>
      cases i with
      | tkInit ictx a =>
        rcases execTkInit_next h with rfl | ⟨hm, f, rfl⟩ | ⟨hm, hl, rfl, rfl⟩
        · exact .skipped
        · exact .faulted f htk hm
        · exact .ran hm he (.inr ⟨hl, a, rfl⟩)
      | tkEnqueue p => exact execEffect_of_tkGate h htk he fun _ => rfl
      | tkPoll => exact execEffect_of_tkGate h htk he fun hl => if_pos (by simp_all [State.stepEnabled])
      | tkRegister => exact execEffect_of_tkGate h htk he fun hl => if_pos (by simp_all [State.stepEnabled])
      | tkTeardown => exact execEffect_of_tkGate h htk he fun _ => rfl
      | _ => cases htk

/-! ### What a step can do -/

/-- A predicate that reads neither the run's inputs nor the marks is kept by every step if the body of every instruction
that can run keeps it. -/
theorem step_keeps {P : State → Prop} {s t : State} (h : step s = .next t) (hs : P s)
    (hrun : ∀ u r, P u → P { u with run := r }) (hrefuse : ∀ u x, P u → P (u.refuse x))
    (hraise : ∀ u f, P u → P (u.raise f))
    (hbody : ∀ u i, u.marked = false → u.stepEnabled i = true → u.runsIn i → i.wellFormed u.cfg.packetLen = true →
      P u → P (i.body u)) : P t := by
  rcases step_cases h with ⟨-, rfl⟩ | ⟨-, rfl⟩ | ⟨-, r, rfl⟩ | ⟨-, r, rfl⟩ | ⟨r, i, -, -, hw, hx⟩
  · exact hs
  · exact hrefuse _ _ hs
  · exact hrun _ r hs
  · exact hrefuse _ _ (hrun _ r hs)
  · have hu := hrun _ r hs
    cases exec_effect hx with
    | skipped => exact hu
    | faulted f => exact hraise _ f hu
    | ran hm he hl => exact hbody _ i hm he hl hw hu

end Sys2Proof.Machine
end

section
/-! The bodies that branch on the stage or the queue: what each can do, said once. -/

namespace Sys2Proof.Machine

@[simp] theorem Regs.readDR_fst (r : Regs) : r.readDR.1 = r.dr := rfl

/-- The state after the entry read and the read of DR, with which `EVT_RX_BYTE` begins (rule R108). -/
def State.drainByte (s : State) : State := { s.enterHandler with regs := s.enterHandler.regs.readDR.2 }

/-- The state after the entry read, the cleared stop and the withheld ACK, with which `EVT_RX_STOP` begins (rule R109). -/
def State.stopServed (s : State) : State := { s.enterHandler with regs := s.enterHandler.regs.clearStop.clearAck }

/-- `EVT_TX_BYTE` sends a byte in `Transmitting`; in no other stage does it do more than the entry read. -/
theorem State.armTxByte_cases (s : State) :
    (∃ pkt cur, s.stage = .transmitting pkt cur ∧ s.armTxByte = { s.enterHandler with
        regs := s.enterHandler.regs.writeDR (txByte s.cfg.packetLen pkt cur)
        stage := .transmitting pkt (sat s.cfg.cursorW (cur + 1)) })
      ∨ s.armTxByte = s.enterHandler := by
  cases hst : s.stage with
  | transmitting pkt cur => exact .inl ⟨pkt, cur, rfl, by simp [State.armTxByte, hst]⟩
  | _ => exact .inr (by simp [State.armTxByte, hst])

/-- `EVT_RX_BYTE` stores the byte below capacity and drops it at capacity; in no other stage than `Receiving` does it do
more than the two reads. -/
theorem State.armRxByte_cases (s : State) :
    (∃ buf, s.stage = .receiving buf ∧ buf.length < s.cfg.rxCap ∧
        s.armRxByte = { s.drainByte with stage := .receiving (buf ++ [s.regs.dr]) })
      ∨ (∃ buf, s.stage = .receiving buf ∧ s.cfg.rxCap ≤ buf.length ∧
        s.armRxByte = s.drainByte.emit [.rxOverflow s.regs.dr])
      ∨ s.armRxByte = s.drainByte := by
  cases hst : s.stage with
  | receiving buf =>
    by_cases hlen : buf.length < s.cfg.rxCap
    · exact .inl ⟨buf, rfl, hlen, by simp [State.armRxByte, State.drainByte, hst, hlen]⟩
    · exact .inr (.inl ⟨buf, rfl, Nat.le_of_not_lt hlen, by simp [State.armRxByte, State.drainByte, hst, hlen]⟩)
  | _ => exact .inr (.inr (by simp [State.armRxByte, State.drainByte, hst]))

/-- `EVT_RX_STOP` makes the packet and wakes the waiter in `Receiving`; in no other stage does it do more than serve the
stop. -/
theorem State.armRxStop_cases (s : State) :
    (∃ buf, s.stage = .receiving buf ∧ s.armRxStop =
        State.signalWake { s.stopServed.emit (packetDiag s.cfg buf) with
          stage := .receivedDataReady (packetOf s.cfg buf) })
      ∨ s.armRxStop = s.stopServed := by
  cases hst : s.stage with
  | receiving buf => exact .inl ⟨buf, rfl, by simp [State.armRxStop, State.stopServed, hst]⟩
  | _ => exact .inr (by simp [State.armRxStop, State.stopServed, hst])

/-- `TK_ENQUEUE` pushes the packet where there is room, and rejects it where there is none. -/
theorem State.enqueue_cases (p : Packet) (s : State) :
    (s.txq.length < s.cfg.txqCap ∧ s.enqueue p = { s with
        txq := s.txq ++ [p]
        out := { s.out with enqResults := s.out.enqResults ++ [.ok] } })
      ∨ (s.cfg.txqCap ≤ s.txq.length ∧
        s.enqueue p = { s with out := { s.out with enqResults := s.out.enqResults ++ [.rejected p] } }) := by
  by_cases hroom : s.txq.length < s.cfg.txqCap
  · exact .inl ⟨hroom, if_pos hroom⟩
  · exact .inr ⟨Nat.le_of_not_lt hroom, if_neg hroom⟩

/-- `TK_POLL` delivers a ready packet; in every other stage it registers the task, in one step or in the first of two. -/
theorem State.poll_cases (s : State) :
    (∃ p, s.stage = .receivedDataReady p ∧ s.poll = { s with
        out := { s.out with delivered := s.out.delivered ++ [p] }
        stage := .waiting
        regs := s.regs.setAck
        task := .idle })
      ∨ (s.stage.tag ≠ .receivedDataReady ∧
        s.poll = if s.cfg.pollRegisterAtomic then s.register else { s with task := .registering }) := by
  cases hst : s.stage with
  | receivedDataReady p => exact .inl ⟨p, rfl, by simp only [State.poll, hst]⟩
  | _ => exact .inr ⟨nofun, by simp only [State.poll, hst, State.register]⟩

/-- `BUS_STOP` is the plain stop, or after a NACK the stop with the drawn STOPF. -/
theorem State.busStop_cases (s : State) :
    (s.busPhase = .txNacked ∧ s.busStop = s.afterDraw.busStopWith (s.regs.flag Sr1.stopf || s.drawn))
      ∨ (s.busPhase ≠ .txNacked ∧ s.busStop = s.busStopWith true) := by
  by_cases hp : s.busPhase = .txNacked
  · exact .inl ⟨hp, if_pos hp⟩
  · exact .inr ⟨hp, if_neg hp⟩

end Sys2Proof.Machine
end

section
/-! The parameters: no body, and so no step, changes them (rule R8). -/

namespace Sys2Proof.Machine

@[simp] theorem State.armTxByte_cfg (s : State) : s.armTxByte.cfg = s.cfg := by
  rcases s.armTxByte_cases with ⟨_, _, -, h⟩ | h <;> rw [h] <;> rfl

@[simp] theorem State.armRxByte_cfg (s : State) : s.armRxByte.cfg = s.cfg := by
  rcases s.armRxByte_cases with ⟨_, -, -, h⟩ | ⟨_, -, -, h⟩ | h <;> rw [h] <;> rfl

@[simp] theorem State.armRxStop_cfg (s : State) : s.armRxStop.cfg = s.cfg := by
  rcases s.armRxStop_cases with ⟨_, -, h⟩ | h
  · rw [h, State.signalWake_cfg]; rfl
  · rw [h]; rfl

@[simp] theorem State.enqueue_cfg (p : Packet) (s : State) : (s.enqueue p).cfg = s.cfg := by
  rcases s.enqueue_cases p with ⟨-, h⟩ | ⟨-, h⟩ <;> rw [h]

@[simp] theorem State.poll_cfg (s : State) : s.poll.cfg = s.cfg := by
  rcases s.poll_cases with ⟨_, -, h⟩ | ⟨-, h⟩ <;> rw [h]
  split <;> rfl

@[simp] theorem State.busStop_cfg (s : State) : s.busStop.cfg = s.cfg := by
  rcases s.busStop_cases with ⟨-, h⟩ | ⟨-, h⟩ <;> rw [h] <;> rfl

/-- The body of an instruction keeps the parameters. -/
@[simp] theorem body_cfg (i : Instr) (s : State) : (i.body s).cfg = s.cfg := by
  cases i with
  | evtTxByte => exact s.armTxByte_cfg
  | evtRxByte => exact s.armRxByte_cfg
  | evtRxStop => exact s.armRxStop_cfg
  | tkEnqueue p => exact s.enqueue_cfg p
  | tkPoll => exact s.poll_cfg
  | busRead ack => cases ack <;> rfl
  | busStop => exact s.busStop_cfg
  | _ => rfl

/-- Settles O50: no step changes the parameters, because the body of no instruction does. -/
theorem noStepChangesTheParameters : Obligations.NoStepChangesTheParameters := by
  intro s t h
  exact step_keeps (P := fun u => u.cfg = s.cfg) h rfl (fun _ _ hu => hu) (fun _ _ hu => hu) (fun _ _ hu => hu)
    fun u i _ _ _ _ hu => (body_cfg i u).trans hu

end Sys2Proof.Machine
end

section
/-! The bounds of the queue, the stage and the delivered packets (rules R13, R24 to R27), body by body. -/

namespace Sys2Proof.Machine

/-- A new stage within its bounds keeps the state within its bounds. -/
theorem State.Bounded.setStage {s t : State} (hb : s.Bounded) {st : Stage} (hst : st.bounded s.cfg = true)
    (hcfg : t.cfg = s.cfg) (htxq : t.txq = s.txq) (hstage : t.stage = st) (hdel : t.out.delivered = s.out.delivered) :
    t.Bounded := by
  obtain ⟨hlen, hpkts, -, hdelivered⟩ := hb
  rw [State.Bounded, hcfg, htxq, hstage, hdel]
  exact ⟨hlen, hpkts, hst, hdelivered⟩

/-- A finished buffer gives a packet of `PACKET_LEN` bytes (rule R115). -/
@[simp] theorem length_packetOf (c : Params) (buf : List Byte) : (packetOf c buf).length = c.packetLen := by
  unfold packetOf
  split
  · assumption
  · simp

/-- A saturating counter stays within its width (rule R10). -/
theorem sat_le (n v : Nat) : sat n v ≤ 2 ^ n - 1 := Nat.min_le_right _ _

/-- The packet a read address match sends has `PACKET_LEN` bytes, as the queued ones have. -/
theorem State.length_nextTxPacket {s : State} (hpkts : ∀ p ∈ s.txq, p.length = s.cfg.packetLen) :
    s.nextTxPacket.length = s.cfg.packetLen := by
  unfold State.nextTxPacket
  split
  next p _ _ hq => exact hpkts p (by simp [hq])
  · simp
  · simp

/-- A read address match leaves the queue or its tail. -/
theorem State.nextTxQueue_suffix (s : State) : s.nextTxQueue <:+ s.txq := by
  unfold State.nextTxQueue
  split
  · exact List.tail_suffix _
  · exact List.suffix_refl _

theorem State.armAddrRead_bounded {s : State} (hb : s.Bounded) : s.armAddrRead.Bounded := by
  obtain ⟨hlen, hpkts, -, hdel⟩ := hb
  have hsuf := s.enterHandler.nextTxQueue_suffix
  refine ⟨hsuf.length_le.trans hlen, fun p hp => hpkts p (hsuf.mem hp), ?_, hdel⟩
  have hp : s.enterHandler.nextTxPacket.length = s.cfg.packetLen := State.length_nextTxPacket hpkts
  simp [State.armAddrRead, Stage.bounded, hp]

theorem State.armTxByte_bounded {s : State} (hb : s.Bounded) : s.armTxByte.Bounded := by
  rcases s.armTxByte_cases with ⟨pkt, cur, hst, h⟩ | h <;> rw [h]
  · have hp : pkt.length = s.cfg.packetLen := by
      obtain ⟨-, -, hbst, -⟩ := hb
      simp_all [Stage.bounded]
    exact hb.setStage (by simp [Stage.bounded, hp, sat_le]) rfl rfl rfl rfl
  · exact hb

theorem State.armRxByte_bounded {s : State} (hb : s.Bounded) : s.armRxByte.Bounded := by
  rcases s.armRxByte_cases with ⟨buf, hst, hlen, h⟩ | ⟨buf, hst, hlen, h⟩ | h <;> rw [h]
  · exact hb.setStage (st := .receiving (buf ++ [s.regs.dr])) (by simpa [Stage.bounded] using hlen) rfl rfl rfl rfl
  · exact hb
  · exact hb

theorem State.armRxStop_bounded {s : State} (hb : s.Bounded) : s.armRxStop.Bounded := by
  rcases s.armRxStop_cases with ⟨buf, -, h⟩ | h <;> rw [h]
  · exact hb.setStage (st := .receivedDataReady (packetOf s.cfg buf)) (by simp [Stage.bounded])
      (State.signalWake_cfg _) (State.signalWake_txq _) (State.signalWake_stage _) (by rw [State.signalWake_out]; rfl)
  · exact hb

theorem State.enqueue_bounded {s : State} {p : Packet} (hp : p.length = s.cfg.packetLen) (hb : s.Bounded) :
    (s.enqueue p).Bounded := by
  rcases s.enqueue_cases p with ⟨hroom, h⟩ | ⟨-, h⟩ <;> rw [h]
  · obtain ⟨-, hpkts, hst, hdel⟩ := hb
    refine ⟨by simpa using hroom, fun q hq => ?_, hst, hdel⟩
    rcases List.mem_append.mp hq with hq | hq
    · exact hpkts q hq
    · rwa [List.mem_singleton.mp hq]
  · exact hb

theorem State.poll_bounded {s : State} (hb : s.Bounded) : s.poll.Bounded := by
  rcases s.poll_cases with ⟨p, hst, h⟩ | ⟨-, h⟩ <;> rw [h]
  · obtain ⟨hlen, hpkts, hbst, hdel⟩ := hb
    refine ⟨hlen, hpkts, rfl, fun q hq => ?_⟩
    rcases List.mem_append.mp hq with hq | hq
    · exact hdel q hq
    · rw [List.mem_singleton.mp hq]
      simpa [hst, Stage.bounded] using hbst
  · split <;> exact hb

theorem State.busStop_bounded {s : State} (hb : s.Bounded) : s.busStop.Bounded := by
  rcases s.busStop_cases with ⟨-, h⟩ | ⟨-, h⟩ <;> rw [h] <;> exact hb

/-- The queue emptied and the stage `Waiting`, as the construction and the teardown leave them, are within bounds. -/
theorem State.Bounded.of_empty {s t : State} (hb : s.Bounded) (hcfg : t.cfg = s.cfg) (htxq : t.txq = [])
    (hstage : t.stage = .waiting) (hdel : t.out.delivered = s.out.delivered) : t.Bounded := by
  obtain ⟨-, -, -, hdelivered⟩ := hb
  rw [State.Bounded, hcfg, htxq, hstage, hdel]
  exact ⟨Nat.zero_le _, nofun, rfl, hdelivered⟩

/-- The body of a well-formed instruction keeps the bounds. -/
theorem body_bounded {i : Instr} {s : State} (hw : i.wellFormed s.cfg.packetLen = true) (hb : s.Bounded) :
    (i.body s).Bounded := by
  cases i with
  | evtAddrRead => exact State.armAddrRead_bounded hb
  | evtAddrWrite => exact hb.setStage (st := .receiving []) (by simp [Stage.bounded]) rfl rfl rfl rfl
  | evtTxByte => exact State.armTxByte_bounded hb
  | evtRxByte => exact State.armRxByte_bounded hb
  | evtRxStop => exact State.armRxStop_bounded hb
  | errNackEnd | errRecoverTx | errRecoverRx | errRecoverIdle => exact hb.setStage (st := .waiting) rfl rfl rfl rfl rfl
  | tkInit | tkTeardown => exact hb.of_empty rfl rfl rfl rfl
  | tkEnqueue p => exact State.enqueue_bounded (by simpa [Instr.wellFormed] using hw) hb
  | tkPoll => exact State.poll_bounded hb
  | busRead ack => cases ack <;> exact hb
  | busStop => exact State.busStop_bounded hb
  | evtTxResync | evtRxIdle | evtResync | tkRegister | busAddr | busWrite | busFault => exact hb

/-- Settles O52: the bounds read neither the run's inputs nor the marks, and the body of every well-formed instruction
keeps them. -/
theorem queueAndStageStayBounded : Obligations.QueueAndStageStayBounded := by
  intro s t hb h
  exact step_keeps h hb (fun _ _ hu => hu) (fun _ _ hu => hu) (fun _ _ hu => hu)
    fun _ _ _ _ _ hw hu => body_bounded hw hu

end Sys2Proof.Machine
end

section
/-! The step before an instruction runs: what is refused, what is decoded, and what is not taken. -/

namespace Sys2Proof.Machine

/-- Taking a choice keeps every field but the run's inputs. -/
theorem fetch_eq_state {s t : State} {x : Option StepItem} (h : s.fetch = (x, t)) : t = { s with run := t.run } := by
  simpa only [h] using fetch_state s

/-- Settles O7: the fetch names the item, the item decodes, and it is well-formed for the parameters the fetch keeps. -/
theorem stepRunsTheDecodedInstruction : Obligations.StepRunsTheDecodedInstruction := by
  intro s t x i hm ha hf hd hw
  have ht := fetch_eq_state hf
  have hwt : i.wellFormed t.cfg.packetLen = true := by rw [ht]; exact hw
  exact ⟨by simp [step, State.takeStep, State.issue, hm, ha, hf, hd, hwt], ht⟩

/-- Settles O11: the step looks at the parameters before it takes a choice, and in an unmarked state the refusal sets its
mark alone. -/
theorem unadmittedParametersAreRefused : Obligations.UnadmittedParametersAreRefused := by
  intro s hm hc
  have ha : s.cfg.admitted = false := by rwa [← Params.admitted_iff, Bool.not_eq_true] at hc
  rw [← State.refuse_unmarked hm]
  simp [step, State.takeStep, hm, ha]

/-- Settles O13: each way of the statement to be disabled makes the step of the instruction one that is not enabled. -/
theorem disabledStepsAreNotTaken : Obligations.DisabledStepsAreNotTaken := by
  intro i s h
  apply exec_disabled
  rcases h with ⟨hi, h⟩ | ⟨hi, h⟩ | ⟨hi, h⟩ | ⟨rfl, hl, h⟩ | ⟨rfl, hl, h⟩ | ⟨dir, rfl, h⟩ | ⟨b, rfl, h⟩ | ⟨a, rfl, h⟩
    | ⟨rfl, h⟩
  · rw [stepEnabled_of_isEv hi, h, Bool.false_and]
  · rw [stepEnabled_of_isEr hi, h, Bool.false_and]
  · exact Bool.eq_false_iff.mpr fun he => by simp [busEnabled_of_stepEnabled hi he] at h
  · rcases h with h | h <;> simp [State.stepEnabled, State.pollEnabled, hl, h]
  · simp [State.stepEnabled, State.registerEnabled, hl, h]
  · rcases h with h | h <;> simp [State.stepEnabled, State.busAddrEnabled, h]
  · rcases h with h | h | h | h <;> simp [State.stepEnabled, State.busWriteEnabled, h]
  · rcases h with h | h | h <;> simp [State.stepEnabled, State.busReadEnabled, h]
  · rcases h with h | h <;> simp [State.stepEnabled, State.busStopEnabled, h]

end Sys2Proof.Machine
end

section
/-! The register space by offset (rules R61 to R63): which accesses are refused, and the two ways an address is one. -/

namespace Sys2Proof.Machine

/-- The byte offset of a register (rule R62): `accessTarget_offset` ties it to the map. -/
def RegName.offset : RegName → Nat
  | .cr1 => 0x00
  | .cr2 => 0x04
  | .oar1 => 0x08
  | .oar2 => 0x0C
  | .dr => 0x10
  | .sr1 => 0x14
  | .sr2 => 0x18
  | .ccr => 0x1C
  | .trise => 0x20
  | .fltr => 0x24

/-- An access at a register's offset with its width reaches the register. -/
theorem accessTarget_offset (x : RegName) : accessTarget x.offset x.bytes = .ok x := by
  cases x <;> rfl

theorem memRead_offset (s : State) (x : RegName) :
    s.memRead x.offset x.bytes = (some (s.regs.read x).1, { s with regs := (s.regs.read x).2 }) := by
  simp only [State.memRead, accessTarget_offset]

theorem memWrite_offset (s : State) (v : Reg) (x : RegName) :
    s.memWrite x.offset x.bytes v = { s with regs := s.regs.write v x } := by
  simp only [State.memWrite, accessTarget_offset]

/-- An access that reaches no register is refused, whether it reads or writes. -/
theorem memAccess_refused {off n : Nat} {x : RefuseReason} (h : accessTarget off n = .error x) (s : State) (v : Reg) :
    s.memRead off n = (none, s.refuse x) ∧ s.memWrite off n v = s.refuse x := by
  simp only [State.memRead, State.memWrite, h, and_self]

/-- Each of the ten slots below 0x28 holds a register; the one of slot 4 is DR, which is one byte wide (rule R62). -/
theorem RegName.ofSlot_of_lt {off : Nat} (h : off < 0x28) :
    ∃ x, RegName.ofSlot off = some x ∧ x.bytes = if off / 4 = 4 then 1 else 2 := by
  have hslot : off / 4 < 10 := by omega
  unfold RegName.ofSlot
  generalize off / 4 = slot at hslot
  interval_cases slot <;> exact ⟨_, rfl, rfl⟩

/-- From 0x28 on no slot holds a register. -/
theorem RegName.ofSlot_of_le {off : Nat} (h : 0x28 ≤ off) : RegName.ofSlot off = none := by
  obtain ⟨k, hk⟩ : ∃ k, off / 4 = k + 10 := ⟨off / 4 - 10, by omega⟩
  simp only [RegName.ofSlot, hk]

theorem accessTarget_of_le {off : Nat} (h : 0x28 ≤ off) (n : Nat) : accessTarget off n = .error .unmapped := by
  simp only [accessTarget, RegName.ofSlot_of_le h]

/-- A byte of a slot above its register's width is outside the map. -/
theorem accessTarget_above_width {off w : Nat} (h : off < 0x28) (hw : w = if off / 4 = 4 then 1 else 2)
    (habove : w ≤ off % 4) (n : Nat) : accessTarget off n = .error .unmapped := by
  obtain ⟨x, hx, hbytes⟩ := RegName.ofSlot_of_lt h
  simp only [accessTarget, hx, hbytes, ← hw, habove, ↓reduceIte]

/-- An access that starts in a register but is not the whole of it has the wrong width or alignment. -/
theorem accessTarget_bad_width {off w n : Nat} (h : off < 0x28) (hw : w = if off / 4 = 4 then 1 else 2)
    (hin : off % 4 < w) (hn : ¬(off % 4 = 0 ∧ n = w)) : accessTarget off n = .error .badWidth := by
  obtain ⟨x, hx, hbytes⟩ := RegName.ofSlot_of_lt h
  simp only [accessTarget, hx, hbytes, ← hw, hn, Nat.not_le_of_lt hin, ↓reduceIte]

/-- A platform address at or above the base is the offset from it (rule R61). -/
theorem platformRead_base_add (s : State) (off n : Nat) : s.platformRead (s.cfg.i2cBase + off) n = s.memRead off n := by
  simp [State.platformRead]

theorem platformWrite_base_add (s : State) (off n : Nat) (v : Reg) :
    s.platformWrite (s.cfg.i2cBase + off) n v = s.memWrite off n v := by
  simp [State.platformWrite]

/-- Below the base nothing is mapped. -/
theorem platformAccess_below {s : State} {a : Nat} (h : a < s.cfg.i2cBase) (n : Nat) (v : Reg) :
    s.platformRead a n = (none, s.refuse .unmapped) ∧ s.platformWrite a n v = s.refuse .unmapped :=
  ⟨if_pos h, if_pos h⟩

/-- A refusal sets its reason where none stands. -/
theorem State.refuse_of_none {s : State} (h : s.refused = none) (x : RefuseReason) :
    s.refuse x = { s with refused := some x } := by
  simp only [State.refuse, h, Option.getD_none]

/-- A refusal that stands keeps its reason (rule R44). -/
theorem State.refuse_of_some {s : State} {y : RefuseReason} (h : s.refused = some y) (x : RefuseReason) :
    s.refuse x = s := by
  rw [State.refuse, h, Option.getD_some, ← h]

/-- Settles O19: the refused accesses by what they reach, the named ones by their register, and a platform address by its
distance from the base. -/
theorem registerSpaceAccessesFollowTheMap : Obligations.RegisterSpaceAccessesFollowTheMap := by
  intro s off n v
  have rd := memRead_offset s
  have wr := memWrite_offset s v
  refine ⟨fun h => memAccess_refused (accessTarget_of_le h n) s v, fun h hdr habove => ?_, fun hdr habove => ?_,
    fun h hdr hin hn => ?_, fun h hn => ?_,
    rd .cr1, rd .cr2, rd .oar1, rd .oar2, rd .dr, rd .sr1, rd .sr2, rd .ccr, rd .trise, rd .fltr,
    wr .cr1, wr .cr2, wr .oar1, wr .oar2, wr .dr, wr .sr1, wr .sr2, wr .ccr, wr .trise, wr .fltr, rfl, rfl, rfl,
    platformRead_base_add s off n, platformWrite_base_add s off n v, fun h => platformAccess_below h n v,
    fun h => State.refuse_of_none h, fun _ h => State.refuse_of_some h⟩
  · exact memAccess_refused (accessTarget_above_width h (if_neg hdr).symm habove n) s v
  · exact memAccess_refused (accessTarget_above_width (by omega) (if_pos hdr).symm habove n) s v
  · exact memAccess_refused (accessTarget_bad_width h (if_neg hdr).symm hin hn) s v
  · subst h
    exact memAccess_refused (accessTarget_bad_width (w := 1) (by decide) rfl (by decide) (by simp [hn])) s v

end Sys2Proof.Machine
end

section
/-! What no body but a construction and a teardown writes, and what the access primitives keep of the registers. -/

namespace Sys2Proof

open Machine

/-- The two instructions that change the lifecycle where they run (rules R152, R156). -/
def Instr.isLifecycle : Instr → Bool
  | .tkInit _ _ | .tkTeardown => true
  | _ => false

theorem Instr.lifecycle_cases (i : Instr) : (∃ c a, i = .tkInit c a) ∨ i = .tkTeardown ∨ i.isLifecycle = false := by
  cases i with
  | tkInit c a => exact .inl ⟨c, a, rfl⟩
  | tkTeardown => exact .inr (.inl rfl)
  | _ => exact .inr (.inr rfl)

end Sys2Proof

namespace Sys2Proof.Machine

theorem State.armTxByte_eq (s : State) : ∃ r st, s.armTxByte = { s with regs := r, stage := st } := by
  rcases s.armTxByte_cases with ⟨_, _, -, h⟩ | h <;> exact ⟨_, _, h⟩

theorem State.armRxByte_eq (s : State) :
    ∃ r st ds, s.armRxByte = { s with regs := r, stage := st, out := { s.out with diag := s.out.diag ++ ds } } := by
  rcases s.armRxByte_cases with ⟨_, -, -, h⟩ | ⟨_, -, -, h⟩ | h
  · exact ⟨_, _, [], by rw [h, List.append_nil]; rfl⟩
  · exact ⟨_, _, _, h⟩
  · exact ⟨_, _, [], by rw [h, List.append_nil]; rfl⟩

theorem State.armRxStop_eq (s : State) : ∃ r st w tk ds, s.armRxStop = { s with
    regs := r, stage := st, wake := w, task := tk, out := { s.out with diag := s.out.diag ++ ds } } := by
  rcases s.armRxStop_cases with ⟨buf, -, h⟩ | h
  · rw [State.signalWake] at h
    split at h <;> exact ⟨_, _, _, _, _, h⟩
  · exact ⟨_, _, _, _, [], by rw [h, List.append_nil]; rfl⟩

theorem State.enqueue_eq (p : Packet) (s : State) : ∃ q e,
    s.enqueue p = { s with txq := q, out := { s.out with enqResults := s.out.enqResults ++ [e] } } := by
  rcases s.enqueue_cases p with ⟨-, h⟩ | ⟨-, h⟩ <;> exact ⟨_, _, h⟩

theorem State.poll_eq (s : State) : ∃ r st w tk ps, s.poll = { s with
    regs := r, stage := st, wake := w, task := tk, out := { s.out with delivered := s.out.delivered ++ ps } } := by
  rcases s.poll_cases with ⟨p, -, h⟩ | ⟨-, h⟩
  · exact ⟨_, _, _, _, _, h⟩
  · split at h
    · exact ⟨_, _, _, _, [], by rw [h, List.append_nil]; rfl⟩
    · exact ⟨_, _, _, _, [], by rw [h, List.append_nil]⟩

theorem State.busStop_eq (s : State) : ∃ sr1 sr2 rn, s.busStop = { s with
    regs := { s.regs with sr1 := sr1, sr2 := sr2 }, busPhase := .idle, run := rn } := by
  rcases s.busStop_cases with ⟨-, h⟩ | ⟨-, h⟩ <;> exact ⟨_, _, _, h⟩

/-- Only a construction and a teardown write the lifecycle and the enables, and no body writes a parameter or a mark. -/
theorem body_eq {i : Instr} (hi : i.isLifecycle = false) (s : State) : ∃ r st q w tk ph o rn, i.body s = { s with
    regs := r, stage := st, txq := q, wake := w, task := tk, busPhase := ph, out := o, run := rn } := by
  cases i with
  | tkInit | tkTeardown => cases hi
  | evtTxByte => obtain ⟨_, _, h⟩ := s.armTxByte_eq; exact ⟨_, _, _, _, _, _, _, _, h⟩
  | evtRxByte => obtain ⟨_, _, _, h⟩ := s.armRxByte_eq; exact ⟨_, _, _, _, _, _, _, _, h⟩
  | evtRxStop => obtain ⟨_, _, _, _, _, h⟩ := s.armRxStop_eq; exact ⟨_, _, _, _, _, _, _, _, h⟩
  | tkEnqueue p => obtain ⟨_, _, h⟩ := s.enqueue_eq p; exact ⟨_, _, _, _, _, _, _, _, h⟩
  | tkPoll => obtain ⟨_, _, _, _, _, h⟩ := s.poll_eq; exact ⟨_, _, _, _, _, _, _, _, h⟩
  | busRead ack => cases ack <;> exact ⟨_, _, _, _, _, _, _, _, rfl⟩
  | busStop => obtain ⟨_, _, _, h⟩ := s.busStop_eq; exact ⟨_, _, _, _, _, _, _, _, h⟩
  | _ => exact ⟨_, _, _, _, _, _, _, _, rfl⟩

theorem body_life {i : Instr} (hi : i.isLifecycle = false) (s : State) : (i.body s).life = s.life := by
  obtain ⟨_, _, _, _, _, _, _, _, h⟩ := body_eq hi s
  rw [h]

/-- No body writes a mark: the faults are raised outside the bodies (`exec_effect`). -/
theorem body_marks (i : Instr) (s : State) : (i.body s).fault = s.fault ∧ (i.body s).refused = s.refused := by
  rcases i.lifecycle_cases with ⟨_, _, rfl⟩ | rfl | hi
  · exact ⟨rfl, rfl⟩
  · exact ⟨rfl, rfl⟩
  · obtain ⟨_, _, _, _, _, _, _, _, h⟩ := body_eq hi s
    rw [h]
    exact ⟨rfl, rfl⟩

/-! ### What the access primitives keep -/

/-- A property of the registers that each access primitive a handler or the task port uses keeps. -/
structure Regs.KeptByPrimitives (P : Regs → Prop) : Prop where
  readSR1 {r : Regs} : P r → P r.readSR1.2
  readSR2 {r : Regs} : P r → P r.readSR2.2
  readDR {r : Regs} : P r → P r.readDR.2
  writeDR {r : Regs} (b : Byte) : P r → P (r.writeDR b)
  writeSR1 {r : Regs} (v : Reg) : P r → P (r.writeSR1 v)
  touchCR1 {r : Regs} : P r → P r.touchCR1
  setAck {r : Regs} : P r → P r.setAck
  clearAck {r : Regs} : P r → P r.clearAck

/-- An access that is made only under a condition keeps what the access keeps. -/
theorem Regs.kept_ite {P : Regs → Prop} {f : Regs → Regs} (hf : ∀ {r}, P r → P (f r)) (c : Bool) {r : Regs} (h : P r) :
    P (if c then f r else r) := by
  split
  · exact hf h
  · exact h

section
variable {P : Regs → Prop} (hP : Regs.KeptByPrimitives P) {r : Regs}
include hP

theorem Regs.KeptByPrimitives.resync (e : Reg) (h : P r) : P (r.resync e) := by
  have hstop := Regs.kept_ite (P := P) hP.touchCR1 (e.getLsbD Sr1.stopf) h
  exact Regs.kept_ite (P := P) hP.readDR (e.getLsbD Sr1.rxne) hstop

theorem Regs.KeptByPrimitives.recheck (h : P r) : P r.recheck := by
  have haddr := Regs.kept_ite (P := P) hP.readSR2 (r.sr1.getLsbD Sr1.addr) (hP.readSR1 h)
  have hstop := Regs.kept_ite (P := P) hP.touchCR1 (r.sr1.getLsbD Sr1.stopf) haddr
  exact Regs.kept_ite (P := P) hP.readDR (r.sr1.getLsbD Sr1.rxne) hstop

theorem Regs.KeptByPrimitives.recover (h : P r) : P r.recover := hP.recheck (hP.writeSR1 _ (hP.setAck h))

/-- A body of a handler or of the task port uses no register access but the primitives, so it keeps what they keep; the
construction, the teardown and the bus agent write registers directly. -/
theorem Regs.KeptByPrimitives.body {i : Instr} {s : State} (hi : i.isLifecycle = false)
    (hbus : i.isBus = true → P (i.body s).regs) (h : P s.regs) : P (i.body s).regs := by
  have hin := hP.readSR1 h
  cases i with
  | evtAddrRead | evtAddrWrite => exact hP.readSR2 hin
  | evtTxByte =>
    show P s.armTxByte.regs
    rcases s.armTxByte_cases with ⟨_, _, -, heq⟩ | heq <;> rw [heq]
    · exact hP.writeDR _ hin
    · exact hin
  | evtTxResync | evtResync => exact hP.resync _ hin
  | evtRxByte =>
    show P s.armRxByte.regs
    rcases s.armRxByte_cases with ⟨_, -, -, heq⟩ | ⟨_, -, -, heq⟩ | heq <;> rw [heq] <;> exact hP.readDR hin
  | evtRxStop =>
    have hserved : P s.stopServed.regs := hP.clearAck (hP.touchCR1 hin)
    show P s.armRxStop.regs
    rcases s.armRxStop_cases with ⟨_, -, heq⟩ | heq <;> rw [heq]
    · rwa [State.signalWake_regs]
    · exact hserved
  | evtRxIdle => exact hin
  | errNackEnd => exact hP.writeSR1 _ hin
  | errRecoverTx | errRecoverRx | errRecoverIdle => exact hP.recover hin
  | tkInit | tkTeardown => cases hi
  | tkEnqueue p =>
    show P (s.enqueue p).regs
    obtain ⟨_, _, heq⟩ := s.enqueue_eq p
    rwa [heq]
  | tkPoll =>
    show P s.poll.regs
    rcases s.poll_cases with ⟨_, -, heq⟩ | ⟨-, heq⟩ <;> rw [heq]
    · exact hP.setAck h
    · split <;> exact h
  | tkRegister => exact h
  | busAddr | busWrite | busRead | busStop | busFault => exact hbus rfl

end

end Sys2Proof.Machine
end

section
/-! The reserved register bits stay 0 (rule R31). -/

namespace Sys2Proof.Machine

/-- Masking a value keeps its reserved bits 0. -/
theorem and_reserved {v m : Reg} (h : v &&& ~~~m = 0#16) (k : Reg) : v &&& k &&& ~~~m = 0#16 := by
  rw [BitVec.and_assoc, BitVec.and_comm k, ← BitVec.and_assoc, h, BitVec.zero_and]

/-- A value cut to the defined bits has its reserved bits 0. -/
theorem and_defined_reserved (v m : Reg) : v &&& m &&& ~~~m = 0#16 := by
  rw [BitVec.and_assoc, BitVec.and_not_self]
  exact BitVec.and_zero

/-- Raising defined bits keeps the reserved bits 0. -/
theorem or_reserved {v k m : Reg} (hv : v &&& ~~~m = 0#16) (hk : k &&& ~~~m = 0#16) : (v ||| k) &&& ~~~m = 0#16 := by
  rw [BitVec.and_or_distrib_right, hv, hk, BitVec.or_zero]

/-- Writing a defined bit keeps the reserved bits 0. -/
theorem setFlag_reserved {v m : Reg} {i : Nat} (hi : BitVec.twoPow 16 i &&& ~~~m = 0#16) (b : Bool)
    (h : v &&& ~~~m = 0#16) : setFlag v i b &&& ~~~m = 0#16 := by
  cases b with
  | false => exact and_reserved h _
  | true => exact or_reserved h hi

/-- A new SR1 whose reserved bits are 0 where those of the old one are. -/
theorem Regs.ReservedZero.setSr1 {r : Regs} (h : r.ReservedZero) {v : Reg}
    (hv : r.sr1 &&& ~~~Sr1.defined = 0#16 → v &&& ~~~Sr1.defined = 0#16) : { r with sr1 := v }.ReservedZero := by
  obtain ⟨hcr1, hcr2, hoar1, hsr1, hsr2⟩ := h
  exact ⟨hcr1, hcr2, hoar1, hv hsr1, hsr2⟩

/-- A new SR2 whose reserved bits are 0 where those of the old one are. -/
theorem Regs.ReservedZero.setSr2 {r : Regs} (h : r.ReservedZero) {v : Reg}
    (hv : r.sr2 &&& ~~~Sr2.defined = 0#16 → v &&& ~~~Sr2.defined = 0#16) : { r with sr2 := v }.ReservedZero := by
  obtain ⟨hcr1, hcr2, hoar1, hsr1, hsr2⟩ := h
  exact ⟨hcr1, hcr2, hoar1, hsr1, hv hsr2⟩

theorem Regs.ReservedZero.writeCR1 {r : Regs} (h : r.ReservedZero) (v : Reg) : (r.writeCR1 v).ReservedZero := by
  obtain ⟨-, hcr2, hoar1, hsr1, hsr2⟩ := h
  rw [Regs.writeCR1_eq]
  refine ⟨and_defined_reserved _ _, hcr2, hoar1, ?_, hsr2⟩
  split
  · exact and_reserved hsr1 _
  · exact hsr1

/-- The access primitives cut what they write to the defined bits, and raise no flag. -/
theorem Regs.reservedZero_kept : Regs.KeptByPrimitives Regs.ReservedZero where
  readSR1 h := h
  readSR2 {r} h := by
    rw [Regs.readSR2_eq]
    split
    · exact h.setSr1 fun hsr1 => and_reserved hsr1 _
    · exact h
  readDR {r} h := by
    rw [Regs.readDR_eq]
    exact h.setSr1 fun hsr1 => and_reserved hsr1 _
  writeDR {r} b h := by
    rw [Regs.writeDR_eq]
    exact h.setSr1 fun hsr1 => and_reserved hsr1 _
  writeSR1 v h := h.setSr1 fun hsr1 => and_reserved hsr1 _
  touchCR1 h := h.writeCR1 _
  setAck h := h.writeCR1 _
  clearAck h := h.writeCR1 _

theorem State.busAddr_reservedZero (rw : Bool) {s : State} (h : s.regs.ReservedZero) :
    (s.busAddr rw).regs.ReservedZero :=
  (h.setSr1 fun hsr1 => setFlag_reserved rfl _ (setFlag_reserved rfl _ hsr1)).setSr2
    fun hsr2 => setFlag_reserved rfl _ (setFlag_reserved rfl _ hsr2)

theorem State.busStopWith_reservedZero (stopf : Bool) {s : State} (h : s.regs.ReservedZero) :
    (s.busStopWith stopf).regs.ReservedZero :=
  (h.setSr1 fun hsr1 => setFlag_reserved rfl _ (setFlag_reserved rfl _ hsr1)).setSr2
    fun hsr2 => setFlag_reserved rfl _ (setFlag_reserved rfl _ hsr2)

/-- The flags a bus fault raises, cut to seven, are defined bits of SR1. -/
theorem faultFlags_reserved (flags : Byte) : ((flags &&& 0xDF#8) ++ 0x00#8) &&& ~~~Sr1.defined = 0#16 := by
  revert flags
  decide

/-- A bus step raises and clears defined flags only. -/
theorem busBody_reservedZero {i : Instr} {s : State} (hi : i.isBus = true) (h : s.regs.ReservedZero) :
    (i.body s).regs.ReservedZero := by
  cases i with
  | busAddr rw => exact State.busAddr_reservedZero rw h
  | busWrite => exact h.setSr1 fun hsr1 => setFlag_reserved rfl _ hsr1
  | busRead ack =>
    cases ack with
    | true => exact h.setSr1 fun hsr1 => setFlag_reserved rfl _ hsr1
    | false => exact h.setSr1 fun hsr1 => setFlag_reserved rfl _ (setFlag_reserved rfl _ hsr1)
  | busStop =>
    show s.busStop.regs.ReservedZero
    rcases s.busStop_cases with ⟨-, heq⟩ | ⟨-, heq⟩ <;> rw [heq]
    · exact State.busStopWith_reservedZero _ (s := s.afterDraw) h
    · exact State.busStopWith_reservedZero _ h
  | busFault flags => exact h.setSr1 fun hsr1 => or_reserved hsr1 (faultFlags_reserved flags)
  | _ => cases hi

theorem Regs.construct_reservedZero {r : Regs} (h : r.ReservedZero) (freq : BitVec 6) (a : BitVec 7) (n : Nat) :
    (r.construct freq a n).ReservedZero := by
  obtain ⟨hcr1, -, -, hsr1, hsr2⟩ := h
  rw [Regs.construct]
  refine Regs.ReservedZero.writeCR1 ?_ _
  exact ⟨hcr1, and_defined_reserved _ _, and_defined_reserved _ _, hsr1, hsr2⟩

theorem Regs.anyValue_reservedZero (r : Regs) (n : Nat) : (r.anyValue n).ReservedZero :=
  ⟨and_defined_reserved _ _, and_defined_reserved _ _, and_defined_reserved _ _, and_defined_reserved _ _,
    and_defined_reserved _ _⟩

theorem body_reservedZero {i : Instr} {s : State} (h : s.regs.ReservedZero) : (i.body s).regs.ReservedZero := by
  rcases i.lifecycle_cases with ⟨_, _, rfl⟩ | rfl | hi
  · exact Regs.construct_reservedZero h _ _ _
  · exact Regs.anyValue_reservedZero _ _
  · exact Regs.reservedZero_kept.body hi (fun hbus => busBody_reservedZero hbus h) h

/-- Settles O51: the reserved bits are no part of the run's inputs or the marks, and no body sets one. -/
theorem reservedBitsStayZero : Obligations.ReservedBitsStayZero := by
  intro s t hs h
  exact step_keeps (P := fun u => u.regs.ReservedZero) h hs (fun _ _ hu => hu) (fun _ _ hu => hu) (fun _ _ hu => hu)
    fun _ _ _ _ _ _ hu => body_reservedZero hu

end Sys2Proof.Machine
end

section
/-! The control registers and the enables keep their values while ACTIVE (rules R32 to R34, R38 to R40). -/

namespace Sys2Proof.Machine

/-- The values of the control registers after the construction, with ACK free: the register part of
`State.ActiveConfigured`. -/
abbrev Regs.Configured (freq : BitVec 6) (r : Regs) : Prop :=
  (r.cr1 = 0x0401#16 ∨ r.cr1 = 0x0001#16)
    ∧ r.cr2 = 0x0700#16 ||| freq.setWidth 16
    ∧ r.oar1 = 0x4000#16 ||| (r.ownAddress.setWidth 16 <<< 1)
    ∧ r.oar2 = 0#16

theorem State.activeConfigured_iff (s : State) : s.ActiveConfigured ↔
    (s.life = .active → s.regs.Configured s.cfg.cfgFreq ∧ s.clkEn = true ∧ s.evEn = true ∧ s.erEn = true) := by
  simp only [State.ActiveConfigured, Regs.Configured, and_assoc]

/-- A write of CR1 by a value of PE with ACK free keeps the configuration. -/
theorem Regs.Configured.writeCR1 {freq : BitVec 6} {r : Regs} (h : r.Configured freq) {v : Reg}
    (hv : v = 0x0401#16 ∨ v = 0x0001#16) : (r.writeCR1 v).Configured freq := by
  obtain ⟨-, hcr2, hoar1, hoar2⟩ := h
  have hcr1 : v &&& 0xBFFB#16 = 0x0401#16 ∨ v &&& 0xBFFB#16 = 0x0001#16 := by
    rcases hv with rfl | rfl <;> decide
  rw [Regs.writeCR1_eq]
  exact ⟨hcr1, hcr2, hoar1, hoar2⟩

/-- The access primitives write no control register but CR1, and there only ACK. -/
theorem Regs.configured_kept (freq : BitVec 6) : Regs.KeptByPrimitives (Regs.Configured freq) where
  readSR1 h := h
  readSR2 {r} h := by
    rw [Regs.readSR2_eq]
    split <;> exact h
  readDR h := h
  writeDR _ h := h
  writeSR1 _ h := h
  touchCR1 h := h.writeCR1 h.1
  setAck {r} h := h.writeCR1 (.inl (by rcases h.1 with e | e <;> rw [e] <;> rfl))
  clearAck {r} h := h.writeCR1 (.inr (by rcases h.1 with e | e <;> rw [e] <;> rfl))

/-- The bus agent writes DR, SR1 and SR2 alone of the registers (rule R182). -/
theorem busBody_regs {i : Instr} (hi : i.isBus = true) (s : State) : ∃ dr sr1 sr2,
    (i.body s).regs = { s.regs with dr := dr, sr1 := sr1, sr2 := sr2 } := by
  cases i with
  | busAddr | busWrite | busFault => exact ⟨_, _, _, rfl⟩
  | busRead ack => cases ack <;> exact ⟨_, _, _, rfl⟩
  | busStop =>
    obtain ⟨sr1, sr2, _, h⟩ := s.busStop_eq
    exact ⟨s.regs.dr, sr1, sr2, congrArg State.regs h⟩
  | _ => cases hi

/-- The value of CR2 that the construction writes has no reserved bit. -/
theorem constructedCR2_defined (freq : BitVec 6) :
    (0x0700#16 ||| freq.setWidth 16) &&& Cr2.defined = 0x0700#16 ||| freq.setWidth 16 := by
  revert freq
  decide

/-- The value of OAR1 that the construction writes has no reserved bit, and its address bits are the address. -/
theorem constructedOAR1_defined (a : BitVec 7) :
    (0x4000#16 ||| (a.setWidth 16 <<< 1)) &&& Oar1.defined = 0x4000#16 ||| (a.setWidth 16 <<< 1)
      ∧ (0x4000#16 ||| (a.setWidth 16 <<< 1)).extractLsb' 1 7 = a := by
  revert a
  decide

theorem Regs.construct_configured (r : Regs) (freq : BitVec 6) (a : BitVec 7) (n : Nat) :
    (r.construct freq a n).Configured freq := by
  obtain ⟨hoar1, haddr⟩ := constructedOAR1_defined a
  rw [Regs.construct, Regs.writeCR1_eq]
  refine ⟨.inl rfl, constructedCR2_defined freq, ?_, rfl⟩
  show _ &&& Oar1.defined = 0x4000#16 ||| (((_ &&& Oar1.defined).extractLsb' 1 7).setWidth 16 <<< 1)
  rw [hoar1, haddr]

theorem body_configured {i : Instr} {s : State} (ha : s.ActiveConfigured) (hd : s.DisabledOutside) :
    (i.body s).ActiveConfigured ∧ (i.body s).DisabledOutside := by
  rw [State.activeConfigured_iff] at ha ⊢
  rcases i.lifecycle_cases with ⟨_, a, rfl⟩ | rfl | hi
  · exact ⟨fun _ => ⟨Regs.construct_configured _ _ _ _, rfl, rfl, rfl⟩, fun h => absurd rfl h⟩
  · exact ⟨nofun, fun _ => ⟨rfl, rfl, rfl⟩⟩
  · have hregs : s.regs.Configured s.cfg.cfgFreq → (i.body s).regs.Configured s.cfg.cfgFreq :=
      fun h => (Regs.configured_kept _).body hi (fun hbus => by
        obtain ⟨_, _, _, heq⟩ := busBody_regs hbus s
        rw [heq]
        exact h) h
    obtain ⟨_, _, _, _, _, _, _, _, heq⟩ := body_eq hi s
    rw [heq] at hregs ⊢
    exact ⟨fun hl => ⟨hregs (ha hl).1, (ha hl).2⟩, hd⟩

/-- Settles O53: only a construction and a teardown write the enables or enter or leave ACTIVE, and every other body
writes no control register but ACK. -/
theorem configurationIsKept : Obligations.ConfigurationIsKept := by
  intro s t ha hd h
  exact step_keeps (P := fun u => u.ActiveConfigured ∧ u.DisabledOutside) h ⟨ha, hd⟩ (fun _ _ hu => hu)
    (fun _ _ hu => hu) (fun _ _ hu => hu) fun _ _ _ _ _ _ hu => body_configured hu.1 hu.2

end Sys2Proof.Machine
end

section
/-! What a step does to ACK and to ADDR, and rule R50: ACK is 0 exactly while a packet is ready. -/

namespace Sys2Proof

theorem StageTag.bits_injective : Function.Injective StageTag.bits := fun a b h => by
  rw [← StageTag.ofBits_bits a, h, StageTag.ofBits_bits]

end Sys2Proof

namespace Sys2Proof.Machine

/-- A handler step that rule R88 forms in the state carries the state's stage tag and SR1. -/
theorem forms_of_formsInstr {s : State} {src src' : BitVec 2} {tag : StageTag} {tra : Bool} {e : Reg} {i : Instr}
    (hi : i.fields = Fields.handler src' tag tra e) (h : s.formsInstr src i = true) :
    s.stage.tag = tag ∧ s.regs.sr1 = e := by
  have hf : Fields.handler src' tag tra e = Fields.handler src s.stage.tag s.regs.tra s.regs.sr1 := by
    simpa [State.formsInstr, hi] using h
  exact ⟨StageTag.bits_injective (congrArg Fields.stage hf).symm, (congrArg Fields.low hf).symm⟩

/-! ### Which step raises ADDR -/

theorem getLsbD_of_and {v k : Reg} {j : Nat} (h : (v &&& k).getLsbD j = true) : v.getLsbD j = true := by
  rw [BitVec.getLsbD_and] at h
  exact Bool.and_elim_left h

theorem Regs.addr_of_writeCR1 {r : Regs} {v : Reg} (h : (r.writeCR1 v).flag Sr1.addr = true) :
    r.flag Sr1.addr = true := by
  rw [Regs.flag, Regs.writeCR1_sr1] at h
  split at h
  · exact getLsbD_of_and h
  · exact h

/-- The access primitives raise no ADDR: what an ADDR before implies, an ADDR after them implies. -/
theorem Regs.addr_kept (Q : Prop) : Regs.KeptByPrimitives fun r => r.flag Sr1.addr = true → Q where
  readSR1 h := h
  readSR2 {r} h := by
    rw [Regs.readSR2_eq]
    split
    · exact fun haddr => h (getLsbD_of_and haddr)
    · exact h
  readDR {r} h := by
    rw [Regs.readDR_eq]
    exact fun haddr => h (getLsbD_of_and haddr)
  writeDR {r} b h := by
    rw [Regs.writeDR_eq]
    exact fun haddr => h (getLsbD_of_and haddr)
  writeSR1 _ h haddr := h (getLsbD_of_and haddr)
  touchCR1 h haddr := h (Regs.addr_of_writeCR1 haddr)
  setAck h haddr := h (Regs.addr_of_writeCR1 haddr)
  clearAck h haddr := h (Regs.addr_of_writeCR1 haddr)

/-- Of the bus steps only an address match writes ADDR. -/
theorem busBody_addr {i : Instr} (hi : i.isBus = true) (hne : ∀ rw, i ≠ .busAddr rw) (s : State) :
    (i.body s).regs.flag Sr1.addr = s.regs.flag Sr1.addr := by
  cases i with
  | busAddr rw => exact absurd rfl (hne rw)
  | busWrite => exact setFlag_getLsbD _ _ 1 _ (by decide)
  | busRead ack =>
    cases ack with
    | true => exact setFlag_getLsbD _ _ 1 _ (by decide)
    | false => exact (setFlag_getLsbD _ _ 1 _ (by decide)).trans (setFlag_getLsbD _ _ 1 _ (by decide))
  | busStop =>
    show s.busStop.regs.flag Sr1.addr = _
    rcases s.busStop_cases with ⟨-, h⟩ | ⟨-, h⟩ <;> rw [h] <;>
      exact (setFlag_getLsbD _ _ 1 _ (by decide)).trans (setFlag_getLsbD _ _ 1 _ (by decide))
  | busFault flags =>
    have hflags : (((flags &&& 0xDF#8) ++ 0x00#8 : Reg)).getLsbD 1 = false := by
      rw [BitVec.getLsbD_append]
      rfl
    show (s.regs.sr1 ||| _).getLsbD 1 = s.regs.sr1.getLsbD 1
    rw [BitVec.getLsbD_or, hflags, Bool.or_false]
  | _ => cases hi

/-- Only an address match of the bus raises ADDR, construction and teardown aside. -/
theorem body_addr {i : Instr} {s : State} (hi : i.isLifecycle = false) (hne : ∀ rw, i ≠ .busAddr rw)
    (h : (i.body s).regs.flag Sr1.addr = true) : s.regs.flag Sr1.addr = true :=
  (Regs.addr_kept (s.regs.flag Sr1.addr = true)).body hi
    (fun hbus haddr => (busBody_addr hbus hne s).symm.trans haddr) id h

/-! ### ACK -/

theorem Regs.ack_writeCR1 (r : Regs) (v : Reg) : (r.writeCR1 v).ack = v.getLsbD 10 := by
  simp [Regs.ack]

@[simp] theorem Regs.ack_touchCR1 (r : Regs) : r.touchCR1.ack = r.ack := Regs.ack_writeCR1 _ _

@[simp] theorem Regs.ack_setAck (r : Regs) : r.setAck.ack = true := by
  simp [Regs.setAck, Regs.ack_writeCR1]

@[simp] theorem Regs.ack_clearAck (r : Regs) : r.clearAck.ack = false := by
  simp [Regs.clearAck, Regs.ack_writeCR1]

@[simp] theorem Regs.ack_resync (r : Regs) (e : Reg) : (r.resync e).ack = r.ack := by
  simp only [Regs.resync]
  have hstop : (if e.getLsbD Sr1.stopf then r.touchCR1 else r).ack = r.ack := by
    split
    · exact r.ack_touchCR1
    · rfl
  split <;> exact hstop

/-- The registers and the stage of a state agree as rule R50 says: the body of `State.AckMatchesStage`. -/
abbrev AckMatches (r : Regs) (st : Stage) : Prop :=
  (r.ack = false ↔ st.tag = .receivedDataReady) ∧ (r.flag Sr1.addr = true → r.ack = true)

theorem AckMatches.ack_of_not_ready {r : Regs} {st : Stage} (h : AckMatches r st) (hst : st.tag ≠ .receivedDataReady) :
    r.ack = true :=
  Bool.eq_true_of_not_eq_false (mt h.1.mp hst)

theorem AckMatches.of_ack {r : Regs} {st : Stage} (hack : r.ack = true) (hst : st.tag ≠ .receivedDataReady) :
    AckMatches r st := by
  simp [AckMatches, hack, hst]

theorem AckMatches.of_same {r r' : Regs} {st st' : Stage} (h : AckMatches r st)
    (haddr : r'.flag Sr1.addr = true → r.flag Sr1.addr = true) (hack : r'.ack = r.ack) (hst : st'.tag = st.tag) :
    AckMatches r' st' := by
  obtain ⟨hiff, himp⟩ := h
  exact ⟨by rw [hack, hst, hiff], fun h => hack.trans (himp (haddr h))⟩

theorem Regs.ack_recover (r : Regs) : r.readSR1.2.recover.ack = true := by
  simp [Regs.ack, Regs.recover_after_entry]

theorem Stage.eq_receiving_of_tag {st : Stage} (h : st.tag = .receiving) : ∃ buf, st = .receiving buf := by
  cases st with
  | receiving buf => exact ⟨buf, rfl⟩
  | _ => cases h

/-- In `Receiving`, `EVT_RX_STOP` withholds ACK and makes the packet ready. -/
theorem State.armRxStop_of_receiving {s : State} (h : s.stage.tag = .receiving) :
    s.armRxStop.regs.ack = false ∧ s.armRxStop.stage.tag = .receivedDataReady := by
  obtain ⟨buf, hst⟩ := Stage.eq_receiving_of_tag h
  simp [State.armRxStop, hst, Stage.tag]

theorem State.armTxByte_ack_tag (s : State) :
    s.armTxByte.regs.ack = s.regs.ack ∧ s.armTxByte.stage.tag = s.stage.tag := by
  rcases s.armTxByte_cases with ⟨_, _, hst, h⟩ | h <;> rw [h]
  · exact ⟨rfl, by rw [hst]; rfl⟩
  · exact ⟨rfl, rfl⟩

theorem State.armRxByte_ack_tag (s : State) :
    s.armRxByte.regs.ack = s.regs.ack ∧ s.armRxByte.stage.tag = s.stage.tag := by
  rcases s.armRxByte_cases with ⟨_, hst, -, h⟩ | ⟨_, -, -, h⟩ | h <;> rw [h]
  · exact ⟨rfl, by rw [hst]; rfl⟩
  · exact ⟨rfl, rfl⟩
  · exact ⟨rfl, rfl⟩

theorem State.poll_ackMatches {s : State} (h : AckMatches s.regs s.stage) : AckMatches s.poll.regs s.poll.stage := by
  rcases s.poll_cases with ⟨_, -, heq⟩ | ⟨-, heq⟩ <;> rw [heq]
  · exact .of_ack s.regs.ack_setAck nofun
  · split <;> exact h

/-- The body of an instruction whose step is enabled in a live driver keeps ACK and the stage in agreement. -/
theorem body_ackMatches {i : Instr} {s : State} (hi : i.isLifecycle = false) (he : s.stepEnabled i = true)
    (hw : i.wellFormed s.cfg.packetLen = true) (h : AckMatches s.regs s.stage) :
    AckMatches (i.body s).regs (i.body s).stage := by
  have same (hne : ∀ rw, i ≠ .busAddr rw) (hack : (i.body s).regs.ack = s.regs.ack)
      (hst : (i.body s).stage.tag = s.stage.tag) : AckMatches (i.body s).regs (i.body s).stage :=
    h.of_same (body_addr hi hne) hack hst
  cases i with
  | tkInit | tkTeardown => cases hi
  | evtAddrRead tag e | evtAddrWrite tag e =>
    obtain ⟨-, rfl⟩ := forms_of_formsInstr rfl (Bool.and_elim_right he)
    refine .of_ack ?_ nofun
    show s.regs.readSR1.2.readSR2.2.ack = true
    simpa [Regs.ack] using h.2 hw
  | evtTxByte => exact same nofun s.armTxByte_ack_tag.1 s.armTxByte_ack_tag.2
  | evtTxResync | evtResync => exact same nofun (Regs.ack_resync _ _) rfl
  | evtRxByte => exact same nofun s.armRxByte_ack_tag.1 s.armRxByte_ack_tag.2
  | evtRxStop tra e =>
    obtain ⟨hst, rfl⟩ := forms_of_formsInstr rfl (Bool.and_elim_right he)
    obtain ⟨hack, htag⟩ := State.armRxStop_of_receiving hst
    have haddr : s.regs.flag Sr1.addr = false := by simp_all [Instr.wellFormed, Regs.flag]
    exact ⟨iff_of_true hack htag, fun hset => absurd (body_addr hi nofun hset) (Bool.eq_false_iff.mp haddr)⟩
  | evtRxIdle => exact same nofun rfl rfl
  | errNackEnd =>
    obtain ⟨hst, rfl⟩ := forms_of_formsInstr rfl (Bool.and_elim_right he)
    exact .of_ack (h.ack_of_not_ready (by simp [hst])) nofun
  | errRecoverTx | errRecoverRx | errRecoverIdle => exact .of_ack (Regs.ack_recover _) nofun
  | tkEnqueue p =>
    obtain ⟨_, _, heq⟩ := s.enqueue_eq p
    show AckMatches (s.enqueue p).regs (s.enqueue p).stage
    rwa [heq]
  | tkPoll => exact State.poll_ackMatches h
  | tkRegister => exact same nofun rfl rfl
  | busAddr rw =>
    have hack : s.regs.ack = true := by simp_all [State.stepEnabled, State.busAddrEnabled]
    exact ⟨h.1, fun _ => hack⟩
  | busWrite => exact same nofun rfl rfl
  | busRead ack => cases ack <;> exact same nofun rfl rfl
  | busStop =>
    obtain ⟨_, _, _, heq⟩ := s.busStop_eq
    exact same nofun (congrArg (fun t => t.regs.ack) heq) (congrArg (fun t => t.stage.tag) heq)
  | busFault => exact same nofun rfl rfl

/-- Settles O54: the construction leaves ACK = 1 and `Waiting`, the teardown leaves no live driver, and every other body
that can run keeps the agreement. -/
theorem ackIsWithheldExactlyWhenReady : Obligations.AckIsWithheldExactlyWhenReady := by
  intro s t hs h
  refine step_keeps h hs (fun _ _ hu => hu) (fun _ _ hu => hu) (fun _ _ hu => hu) fun u i _ he _ hw hu => ?_
  rcases i.lifecycle_cases with ⟨_, _, rfl⟩ | rfl | hi
  · exact fun _ => AckMatches.of_ack (Regs.ack_writeCR1 _ _) nofun
  · exact nofun
  · exact fun hl => body_ackMatches hi he hw (hu ((body_life hi u).symm.trans hl))

end Sys2Proof.Machine
end

section
/-! What no step takes back: the output records only grow (rule R43), and the marks are sticky (rule R44). -/

namespace Sys2Proof.Machine

/-- Each of the four records of `o'` is the one of `o` with entries appended. -/
abbrev Outputs.IsPrefix (o o' : Outputs) : Prop :=
  o.hostRx <+: o'.hostRx ∧ o.delivered <+: o'.delivered ∧ o.enqResults <+: o'.enqResults ∧ o.diag <+: o'.diag

theorem Outputs.IsPrefix.refl (o : Outputs) : o.IsPrefix o :=
  ⟨List.prefix_rfl, List.prefix_rfl, List.prefix_rfl, List.prefix_rfl⟩

theorem Outputs.IsPrefix.trans {o o' o'' : Outputs} (h : o.IsPrefix o') (h' : o'.IsPrefix o'') : o.IsPrefix o'' := by
  obtain ⟨hrx, hdel, henq, hdiag⟩ := h
  obtain ⟨hrx', hdel', henq', hdiag'⟩ := h'
  exact ⟨hrx.trans hrx', hdel.trans hdel', henq.trans henq', hdiag.trans hdiag'⟩

theorem Outputs.isPrefix_hostRx (o : Outputs) (bs : List Byte) : o.IsPrefix { o with hostRx := o.hostRx ++ bs } :=
  ⟨List.prefix_append _ _, List.prefix_rfl, List.prefix_rfl, List.prefix_rfl⟩

theorem Outputs.isPrefix_delivered (o : Outputs) (ps : List Packet) :
    o.IsPrefix { o with delivered := o.delivered ++ ps } :=
  ⟨List.prefix_rfl, List.prefix_append _ _, List.prefix_rfl, List.prefix_rfl⟩

theorem Outputs.isPrefix_enqResults (o : Outputs) (es : List EnqResult) :
    o.IsPrefix { o with enqResults := o.enqResults ++ es } :=
  ⟨List.prefix_rfl, List.prefix_rfl, List.prefix_append _ _, List.prefix_rfl⟩

theorem Outputs.isPrefix_diag (o : Outputs) (ds : List DiagRecord) : o.IsPrefix { o with diag := o.diag ++ ds } :=
  ⟨List.prefix_rfl, List.prefix_rfl, List.prefix_rfl, List.prefix_append _ _⟩

/-- A body leaves each output record as it is or appends to it. -/
theorem body_out (i : Instr) (s : State) : s.out.IsPrefix (i.body s).out := by
  have of_eq {t : State} (h : i.body s = t) (ht : s.out.IsPrefix t.out) : s.out.IsPrefix (i.body s).out := h ▸ ht
  cases i with
  | evtTxByte =>
    obtain ⟨_, _, h⟩ := s.armTxByte_eq
    exact of_eq h (.refl _)
  | evtRxByte =>
    obtain ⟨_, _, ds, h⟩ := s.armRxByte_eq
    exact of_eq h (s.out.isPrefix_diag ds)
  | evtRxStop =>
    obtain ⟨_, _, _, _, ds, h⟩ := s.armRxStop_eq
    exact of_eq h (s.out.isPrefix_diag ds)
  | errRecoverTx | errRecoverRx | errRecoverIdle => exact s.out.isPrefix_diag _
  | tkEnqueue p =>
    obtain ⟨_, e, h⟩ := s.enqueue_eq p
    exact of_eq h (s.out.isPrefix_enqResults [e])
  | tkPoll =>
    obtain ⟨_, _, _, _, ps, h⟩ := s.poll_eq
    exact of_eq h (s.out.isPrefix_delivered ps)
  | busRead ack => cases ack <;> exact s.out.isPrefix_hostRx _
  | busStop =>
    obtain ⟨_, _, _, h⟩ := s.busStop_eq
    exact of_eq h (.refl _)
  | _ => exact Outputs.IsPrefix.refl _

/-- Settles O46: a step leaves the records as they are or runs a body. -/
theorem outputRecordsAreNeverShortened : Obligations.OutputRecordsAreNeverShortened := by
  intro s t h
  exact step_keeps (P := fun u => s.out.IsPrefix u.out) h (.refl _) (fun _ _ hu => hu) (fun _ _ hu => hu)
    (fun _ _ hu => hu) fun u i _ _ _ _ hu => hu.trans (body_out i u)

/-- What a step does to the marks: it keeps one that stands, and a fault is new only where a TK instruction raises it in
an unmarked state. -/
theorem exec_marks {i : Instr} {s t : State} (h : exec i s = .next t) :
    (t.fault = s.fault ∧ t.refused = s.refused) ∨ (s.fault = none ∧ t.refused = s.refused ∧ i.isTk = true) := by
  cases exec_effect h with
  | skipped => exact .inl ⟨rfl, rfl⟩
  | faulted f htk hm => exact .inr ⟨by simp_all [State.marked], rfl, htk⟩
  | ran => exact .inl (body_marks i s)

/-- A refusal keeps a refusal that stands. -/
theorem State.refuse_keeps {s : State} {x : RefuseReason} (h : s.refused = some x) (y : RefuseReason) :
    (s.refuse y).refused = some x := by
  rw [State.refuse_of_some h, h]

/-- Settles O47: a refusal keeps the reason that stands, and a fault is raised by a TK instruction in an unmarked
state. -/
theorem marksAreSticky : Obligations.MarksAreSticky := by
  intro s t h
  rcases step_cases h with ⟨-, rfl⟩ | ⟨-, rfl⟩ | ⟨-, r, rfl⟩ | ⟨-, r, rfl⟩ | ⟨r, i, -, hi, -, hx⟩
  · exact ⟨fun _ hf => hf, fun _ hx => hx, fun hne => absurd rfl hne⟩
  · exact ⟨fun _ hf => hf, fun _ hx => State.refuse_keeps hx _, fun hne => absurd rfl hne⟩
  · exact ⟨fun _ hf => hf, fun _ hx => hx, fun hne => absurd rfl hne⟩
  · exact ⟨fun _ hf => hf, fun _ hx => State.refuse_keeps (s := { s with run := r }) hx _, fun hne => absurd rfl hne⟩
  · rcases exec_marks hx with ⟨hf, hr⟩ | ⟨hf, hr, htk⟩
    · exact ⟨fun _ hs => hf.trans hs, fun _ hs => hr.trans hs, fun hne => absurd hf hne⟩
    · exact ⟨fun _ hs => absurd (hf.symm.trans hs) nofun, fun _ hs => hr.trans hs, fun _ => ⟨i, hi, htk⟩⟩

end Sys2Proof.Machine
end

section
/-! Which steps write the stage, the queue and the wake slot (rules R23, R27, R28), the agreement of the waiter with the
task (rules R28, R29), and power-on. -/

namespace Sys2Proof.Machine

/-- Where an instruction changes something that a fault mark leaves alone, its body ran. -/
theorem exec_ran_of_changed {α : Type} (f : State → α) (hraise : ∀ u x, f (State.raise u x) = f u) {i : Instr}
    {s t : State} (h : exec i s = .next t) (hne : f t ≠ f s) : s.stepEnabled i = true ∧ t = i.body s := by
  cases exec_effect h with
  | skipped => exact absurd rfl hne
  | faulted x => exact absurd (hraise s x) hne
  | ran _ he => exact ⟨he, rfl⟩

/-- The steps that write the stage (rule R23). -/
theorem body_stage {i : Instr} {s : State} (hne : (i.body s).stage ≠ s.stage) :
    i.isEv = true ∨ i.isEr = true ∨ (∃ c a, i = .tkInit c a) ∨ i = .tkTeardown
      ∨ (i = .tkPoll ∧ s.stage.tag = .receivedDataReady ∧ (i.body s).stage = .waiting) := by
  rcases i.agent_cases with hev | her | htk | hbus
  · exact .inl hev
  · exact .inr (.inl her)
  · refine .inr (.inr ?_)
    cases i with
    | tkInit c a => exact .inl ⟨c, a, rfl⟩
    | tkTeardown => exact .inr (.inl rfl)
    | tkEnqueue p =>
      obtain ⟨_, _, h⟩ := s.enqueue_eq p
      exact absurd (congrArg State.stage h) hne
    | tkPoll =>
      rcases s.poll_cases with ⟨_, hst, h⟩ | ⟨-, h⟩
      · exact .inr (.inr ⟨rfl, by rw [hst]; rfl, congrArg State.stage h⟩)
      · split at h <;> exact absurd (congrArg State.stage h) hne
    | tkRegister => exact absurd rfl hne
    | _ => cases htk
  · cases i with
    | busStop =>
      obtain ⟨_, _, _, h⟩ := s.busStop_eq
      exact absurd (congrArg State.stage h) hne
    | busRead ack => cases ack <;> exact absurd rfl hne
    | busAddr | busWrite | busFault => exact absurd rfl hne
    | _ => cases hbus

/-- A read address match that changes the queue takes its head (rule R104). -/
theorem State.nextTxQueue_of_ne {s : State} (hne : s.nextTxQueue ≠ s.txq) : ∃ p, s.txq = p :: s.nextTxQueue := by
  unfold State.nextTxQueue at hne ⊢
  split at hne
  · cases hq : s.txq with
    | nil => simp [hq] at hne
    | cons p ps => exact ⟨p, rfl⟩
  · exact absurd rfl hne

/-- The steps that write the queue (rule R27). -/
theorem body_txq {i : Instr} {s : State} (hne : (i.body s).txq ≠ s.txq) :
    (∃ c a, i = .tkInit c a) ∨ i = .tkTeardown ∨ (∃ p, i = .tkEnqueue p ∧ (i.body s).txq = s.txq ++ [p])
      ∨ ∃ tag e, i = .evtAddrRead tag e ∧ ∃ p, s.txq = p :: (i.body s).txq := by
  cases i with
  | tkInit c a => exact .inl ⟨c, a, rfl⟩
  | tkTeardown => exact .inr (.inl rfl)
  | tkEnqueue p =>
    rcases s.enqueue_cases p with ⟨-, h⟩ | ⟨-, h⟩
    · exact .inr (.inr (.inl ⟨p, rfl, congrArg State.txq h⟩))
    · exact absurd (congrArg State.txq h) hne
  | evtAddrRead tag e => exact .inr (.inr (.inr ⟨tag, e, rfl, State.nextTxQueue_of_ne (s := s.enterHandler) hne⟩))
  | evtTxByte => obtain ⟨_, _, h⟩ := s.armTxByte_eq; exact absurd (congrArg State.txq h) hne
  | evtRxByte => obtain ⟨_, _, _, h⟩ := s.armRxByte_eq; exact absurd (congrArg State.txq h) hne
  | evtRxStop => obtain ⟨_, _, _, _, _, h⟩ := s.armRxStop_eq; exact absurd (congrArg State.txq h) hne
  | tkPoll => obtain ⟨_, _, _, _, _, h⟩ := s.poll_eq; exact absurd (congrArg State.txq h) hne
  | busRead ack => cases ack <;> exact absurd rfl hne
  | busStop => obtain ⟨_, _, _, h⟩ := s.busStop_eq; exact absurd (congrArg State.txq h) hne
  | _ => exact absurd rfl hne

/-- Only the construction, the teardown, the stop that completes a receive, the poll and the registration write the wake
slot or the task mode (rules R28, R29). -/
theorem body_wake_task (i : Instr) (s : State) :
    ((i.body s).wake = s.wake ∧ (i.body s).task = s.task)
      ∨ i.isLifecycle = true ∨ (∃ tra e, i = .evtRxStop tra e) ∨ i = .tkPoll ∨ i = .tkRegister := by
  have of_eq {t : State} (h : i.body s = t) (hw : t.wake = s.wake) (ht : t.task = s.task) :
      (i.body s).wake = s.wake ∧ (i.body s).task = s.task := ⟨h ▸ hw, h ▸ ht⟩
  cases i with
  | tkInit | tkTeardown => exact .inr (.inl rfl)
  | evtRxStop tra e => exact .inr (.inr (.inl ⟨tra, e, rfl⟩))
  | tkPoll => exact .inr (.inr (.inr (.inl rfl)))
  | tkRegister => exact .inr (.inr (.inr (.inr rfl)))
  | evtTxByte =>
    obtain ⟨_, _, h⟩ := s.armTxByte_eq
    exact .inl (of_eq h rfl rfl)
  | evtRxByte =>
    obtain ⟨_, _, _, h⟩ := s.armRxByte_eq
    exact .inl (of_eq h rfl rfl)
  | tkEnqueue p =>
    obtain ⟨_, _, h⟩ := s.enqueue_eq p
    exact .inl (of_eq h rfl rfl)
  | busRead ack => cases ack <;> exact .inl ⟨rfl, rfl⟩
  | busStop =>
    obtain ⟨_, _, _, h⟩ := s.busStop_eq
    exact .inl (of_eq h rfl rfl)
  | _ => exact .inl ⟨rfl, rfl⟩

/-- A stop that completes a receive wakes a registered waiter (rule R114); without a receive it leaves slot and task. -/
theorem State.armRxStop_wake_task (s : State) :
    (s.armRxStop.wake = .empty ∧ s.armRxStop.task = if s.wake = .registered then .polling else s.task)
      ∨ (s.armRxStop.wake = s.wake ∧ s.armRxStop.task = s.task) := by
  rcases s.armRxStop_cases with ⟨_, -, h⟩ | h <;> rw [h]
  · exact .inl ⟨State.signalWake_wake _, State.signalWake_task _⟩
  · exact .inr ⟨rfl, rfl⟩

/-- A poll that delivers leaves the task IDLE; one that does not registers it, in one step or in the first of two. -/
theorem State.poll_wake_task (s : State) :
    (s.poll.wake = s.wake ∧ s.poll.task = .idle)
      ∨ (s.poll.wake = .registered ∧ s.poll.task = .suspended)
      ∨ (s.cfg.pollRegisterAtomic = false ∧ s.poll.wake = s.wake ∧ s.poll.task = .registering) := by
  rcases s.poll_cases with ⟨_, -, h⟩ | ⟨-, h⟩ <;> rw [h]
  · exact .inl ⟨rfl, rfl⟩
  · split
    · exact .inr (.inl ⟨rfl, rfl⟩)
    next hatomic => exact .inr (.inr ⟨Bool.eq_false_iff.mpr hatomic, rfl, rfl⟩)

/-- The steps that write the wake slot (rule R28). -/
theorem body_wake {i : Instr} {s : State} (hne : (i.body s).wake ≠ s.wake) :
    (∃ c a, i = .tkInit c a) ∨ i = .tkTeardown ∨ (i = .tkPoll ∧ (i.body s).wake = .registered)
      ∨ (i = .tkRegister ∧ (i.body s).wake = .registered)
      ∨ ∃ tra e, i = .evtRxStop tra e ∧ (i.body s).wake = .empty := by
  rcases body_wake_task i s with ⟨h, -⟩ | hlife | ⟨tra, e, rfl⟩ | rfl | rfl
  · exact absurd h hne
  · rcases i.lifecycle_cases with hinit | hdown | hnot
    · exact .inl hinit
    · exact .inr (.inl hdown)
    · simp [hlife] at hnot
  · rcases s.armRxStop_wake_task with ⟨h, -⟩ | ⟨h, -⟩
    · exact .inr (.inr (.inr (.inr ⟨tra, e, rfl, h⟩)))
    · exact absurd h hne
  · rcases s.poll_wake_task with ⟨h, -⟩ | ⟨h, -⟩ | ⟨-, h, -⟩
    · exact absurd h hne
    · exact .inr (.inr (.inl ⟨rfl, h⟩))
    · exact absurd h hne
  · exact .inr (.inr (.inr (.inl ⟨rfl, rfl⟩)))

/-- Settles O48: what changes the stage, the queue or the slot is a body that ran. -/
theorem onlyTheNamedStepsWriteTheEngineState : Obligations.OnlyTheNamedStepsWriteTheEngineState := by
  intro i s t h
  refine ⟨fun hne => ?_, fun hne => ?_, fun hne => ?_⟩
  · obtain ⟨-, rfl⟩ := exec_ran_of_changed State.stage State.raise_stage h hne
    exact body_stage hne
  · obtain ⟨-, rfl⟩ := exec_ran_of_changed State.txq State.raise_txq h hne
    exact body_txq hne
  · obtain ⟨-, rfl⟩ := exec_ran_of_changed State.wake State.raise_wake h hne
    exact body_wake hne

/-! ### The waiter and the task -/

/-- The wake slot and the task mode agree as rules R28 and R29 say: the body of `State.WaiterAgrees`. -/
abbrev WaiterMatches (c : Params) (w : Wake) (tk : TaskMode) : Prop :=
  (w = .registered ↔ tk = .suspended) ∧ (c.pollRegisterAtomic = true → tk ≠ .registering)

theorem State.armRxStop_waiterMatches {s : State} (h : WaiterMatches s.cfg s.wake s.task) :
    WaiterMatches s.cfg s.armRxStop.wake s.armRxStop.task := by
  rcases s.armRxStop_wake_task with ⟨hw, ht⟩ | ⟨hw, ht⟩ <;> rw [hw, ht]
  · obtain ⟨hiff, hreg⟩ := h
    split
    next => exact ⟨by simp, fun _ => nofun⟩
    next hempty => exact ⟨iff_of_false nofun (mt hiff.mpr hempty), hreg⟩
  · exact h

/-- A poll is taken by a task that is IDLE or POLLING (rule R154), so no waiter is registered before it. -/
theorem State.poll_waiterMatches {s : State} (hen : s.pollEnabled = true) (h : WaiterMatches s.cfg s.wake s.task) :
    WaiterMatches s.cfg s.poll.wake s.poll.task := by
  have hnone : s.wake ≠ .registered := fun hw => by
    have hsusp := h.1.mp hw
    simp [State.pollEnabled, hsusp] at hen
  rcases s.poll_wake_task with ⟨hw, ht⟩ | ⟨hw, ht⟩ | ⟨hatomic, hw, ht⟩ <;> rw [hw, ht]
  · exact ⟨iff_of_false hnone nofun, fun _ => nofun⟩
  · exact ⟨iff_of_true rfl rfl, fun _ => nofun⟩
  · exact ⟨iff_of_false hnone nofun, fun hset => by simp [hatomic] at hset⟩

theorem body_waiterMatches {i : Instr} {s : State} (hi : i.isLifecycle = false) (hl : s.life = .active)
    (he : s.stepEnabled i = true) (h : WaiterMatches s.cfg s.wake s.task) :
    WaiterMatches s.cfg (i.body s).wake (i.body s).task := by
  rcases body_wake_task i s with ⟨hw, ht⟩ | hlife | ⟨tra, e, rfl⟩ | rfl | rfl
  · rwa [hw, ht]
  · simp [hi] at hlife
  · exact State.armRxStop_waiterMatches h
  · exact State.poll_waiterMatches (by simp_all [State.stepEnabled]) h
  · exact ⟨iff_of_true rfl rfl, fun _ => nofun⟩

/-- Settles O55: the construction leaves an empty slot and an IDLE task, the teardown no live driver, and every other
body that can run keeps the agreement. -/
theorem waiterAndTaskAgree : Obligations.WaiterAndTaskAgree := by
  intro s t hs h
  refine step_keeps h hs (fun _ _ hu => hu) (fun _ _ hu => hu) (fun _ _ hu => hu) fun u i _ he _ _ hu => ?_
  rcases i.lifecycle_cases with ⟨_, _, rfl⟩ | rfl | hi
  · exact fun _ => ⟨iff_of_false nofun nofun, fun _ => nofun⟩
  · exact nofun
  · intro hl'
    have hl : u.life = .active := (body_life hi u).symm.trans hl'
    rw [body_cfg]
    exact body_waiterMatches hi hl he (hu hl)

/-! ### Power-on -/

/-- Settles O60: what an invariant asks while ACTIVE it asks of no power-on state; the rest are the listed values. -/
theorem powerOnMeetsTheInvariants : Obligations.PowerOnMeetsTheInvariants :=
  ⟨⟨rfl, rfl, rfl, rfl, rfl⟩, ⟨Nat.zero_le _, nofun, rfl, nofun⟩, nofun, fun _ => ⟨rfl, rfl, rfl⟩, nofun, nofun,
    fun _ => ⟨rfl, rfl⟩, nofun, nofun, rfl, rfl, rfl, rfl, rfl, rfl, rfl, rfl, rfl, rfl⟩

end Sys2Proof.Machine
end

section
/-! The side effects of the register accesses (rules R64 to R69): which flags each access clears, and under which armed
bit. -/

namespace Sys2Proof.Machine

theorem Regs.readSR2_of_armed {r : Regs} (h : r.addrArmed = true) :
    r.readSR2.2 = { r with sr1 := setFlag r.sr1 1 false, addrArmed := false } := if_pos h

theorem Regs.readSR2_of_not_armed {r : Regs} (h : r.addrArmed = false) : r.readSR2.2 = r := by
  rw [Regs.readSR2_eq, h, if_neg Bool.false_ne_true]

/-- Settles O16: the read of SR1 arms the clear sequence, and the read of SR2 completes it only when armed. -/
theorem addressMatchClearsInOrder : Obligations.AddressMatchClearsInOrder := fun r =>
  ⟨r.readSR1_eq, rfl, Regs.readSR2_of_armed, Regs.readSR2_of_not_armed⟩

theorem Regs.writeCR1_of_armed {r : Regs} (h : r.stopfArmed = true) (v : Reg) :
    r.writeCR1 v = { r with cr1 := v &&& 0xBFFB#16, sr1 := r.sr1 &&& 0xFFEF#16, stopfArmed := false } := by
  rw [Regs.writeCR1_eq, if_pos h]

theorem Regs.writeCR1_of_not_armed {r : Regs} (h : r.stopfArmed = false) (v : Reg) :
    r.writeCR1 v = { r with cr1 := v &&& 0xBFFB#16 } := by
  rw [Regs.writeCR1_eq, h, if_neg Bool.false_ne_true, ← h]

/-- Settles O17: each access is its primitive, and the write of CR1 splits on the armed STOPF. -/
theorem dataAndControlAccessesClearFlags : Obligations.DataAndControlAccessesClearFlags := fun r b v =>
  ⟨r.readDR_eq, r.writeDR_eq b, fun h => Regs.writeCR1_of_armed h v, fun h => Regs.writeCR1_of_not_armed h v,
    rfl, rfl, rfl⟩

/-- The mask an SR1 write always keeps is the complement of the rc_w0 bits (rules R35, R69). -/
theorem keptMask_getLsbD : ∀ i < 16, (0x20FF#16 : Reg).getLsbD i = decide (i ∉ [8, 9, 10, 11, 12, 14, 15]) := by
  decide

theorem Regs.writeSR1_getLsbD (r : Regs) (v : Reg) {i : Nat} (hi : i < 16) :
    (r.writeSR1 v).sr1.getLsbD i =
      (r.sr1.getLsbD i && (v.getLsbD i || decide (i ∉ [8, 9, 10, 11, 12, 14, 15]))) := by
  rw [Regs.writeSR1_eq, BitVec.getLsbD_and, BitVec.getLsbD_or, keptMask_getLsbD i hi]

/-- Settles O18: a bit is cleared exactly when the mask does not keep it and the value written holds 0 there. -/
theorem statusWriteClearsFaultFlagsOnly : Obligations.StatusWriteClearsFaultFlagsOnly := by
  refine fun r v => ⟨fun i hi => ?_, rfl⟩
  rw [r.writeSR1_getLsbD v hi]
  cases v.getLsbD i with
  | true => rw [Bool.true_or, Bool.and_true, if_neg (fun h => nomatch h.2)]
  | false =>
    by_cases hmem : i ∈ [8, 9, 10, 11, 12, 14, 15]
    · rw [if_pos ⟨hmem, rfl⟩, decide_eq_false (not_not_intro hmem), Bool.or_false, Bool.and_false]
    · rw [if_neg (fun h => hmem h.1), decide_eq_true hmem, Bool.or_true, Bool.and_true]

end Sys2Proof.Machine
end

section
/-! The decoder and the encoder (rules R81 to R94): each agent's rows are read from their own fields, and a word and the
instruction it decodes to determine each other. -/

namespace Sys2Proof

/-! ### The parts of LOW -/

/-- Two bit vectors are equal exactly when their bits are. -/
theorem bits_eq_iff {w : Nat} {u v : BitVec w} : u = v ↔ ∀ i : Fin w, u.getLsbD i = v.getLsbD i := by
  simp only [BitVec.eq_of_getLsbD_eq_iff, Fin.forall_iff]

/-- A value whose bits from `k` on are 0 is its low `k` bits, extended. -/
theorem setWidth_low_part {w k : Nat} (hk : k ≤ w) {v : BitVec w} (h : v.extractLsb' k (w - k) = 0#(w - k)) :
    (v.extractLsb' 0 k).setWidth w = v := by
  rw [BitVec.setWidth_eq_append hk, ← h, BitVec.extractLsb'_append_extractLsb'_eq_extractLsb' (Nat.zero_add k).symm]
  ext i hi
  rw [BitVec.getElem_cast, BitVec.getElem_extractLsb', Nat.zero_add, BitVec.getLsbD_eq_getElem]

theorem low_part_setWidth {w k : Nat} (hk : k ≤ w) (v : BitVec k) : (v.setWidth w).extractLsb' 0 k = v := by
  rw [BitVec.extractLsb'_setWidth_of_le (by omega), BitVec.extractLsb'_eq_self]

theorem high_part_setWidth {w k : Nat} (v : BitVec k) : (v.setWidth w).extractLsb' k (w - k) = 0#(w - k) := by
  simp [bits_eq_iff]

/-- A register whose low byte is 0 is its high byte, shifted up. -/
theorem high_byte_append_zero {v : Reg} (h : v.extractLsb' 0 8 = 0#8) : v.extractLsb' 8 8 ++ 0#8 = v := by
  rw [← h, BitVec.extractLsb'_append_extractLsb'_eq_extractLsb' (Nat.zero_add 8).symm, BitVec.extractLsb'_eq_self]

theorem low_byte_of_append (b : Byte) : (b ++ 0#8).extractLsb' 0 8 = 0#8 := BitVec.extractLsb'_append_eq_right

theorem high_byte_of_append (b : Byte) : (b ++ 0#8).extractLsb' 8 8 = b := BitVec.extractLsb'_append_eq_left

/-- Bit 5 of FLAGS is the reserved SR1 bit 13 (rule R94). -/
theorem reserved_bit_of_append (b : Byte) : (b ++ 0#8)[13] = b[5] := BitVec.getElem_append (by decide)

/-! ### The fields of a handler word and of a task or bus word -/

@[simp] theorem decodeFields_ev (tag : StageTag) (tra : Bool) (e : Reg) (p : Packet) :
    decodeFields (.handler 0b00#2 tag tra e) p = .ok (decodeEv tag tra e) := by
  simp [decodeFields, Fields.handler]

@[simp] theorem decodeFields_er (tag : StageTag) (tra : Bool) (e : Reg) (p : Packet) :
    decodeFields (.handler 0b01#2 tag tra e) p = .ok (decodeEr tag tra e) := by
  simp [decodeFields, Fields.handler]

@[simp] theorem decodeFields_tk (op : BitVec 4) (b16 : Bool) (low : Reg) (p : Packet) :
    decodeFields (.operation 0b10#2 op b16 low) p = decodeTk op b16 low p := by
  simp [decodeFields, Fields.operation]

@[simp] theorem decodeFields_bus (op : BitVec 4) (b16 : Bool) (low : Reg) (p : Packet) :
    decodeFields (.operation 0b11#2 op b16 low) p = decodeBus op b16 low := by
  simp [decodeFields, Fields.operation]

theorem ofBool_bit_zero (b : BitVec 1) : BitVec.ofBool (b.getLsbD 0) = b := by
  revert b; decide

/-- Fields with OP and RES 0 are those of a handler word (rules R84, R85). -/
theorem Fields.eq_handler {f : Fields} (hop : f.op = 0#4) (hres : f.res = 0#7) :
    f = .handler f.src (StageTag.ofBits f.stage) (f.b16.getLsbD 0) f.low := by
  rw [Fields.handler, StageTag.bits_ofBits, ofBool_bit_zero, ← hop, ← hres]

/-- Fields with STAGE and RES 0 are those of a task or bus word (rules R81, R85). -/
theorem Fields.eq_operation {f : Fields} (hstage : f.stage = 0#2) (hres : f.res = 0#7) :
    f = .operation f.src f.op (f.b16.getLsbD 0) f.low := by
  rw [Fields.operation, ofBool_bit_zero, ← hstage, ← hres]

theorem src_cases (b : BitVec 2) : b = 0b00#2 ∨ b = 0b01#2 ∨ b = 0b10#2 ∨ b = 0b11#2 := by
  revert b; decide

/-- Fields that decode are those of a handler word, or those of a task or bus word that its agent's rows decode. -/
theorem decodeFields_ok {f : Fields} {p : Packet} {i : Instr} (h : decodeFields f p = .ok i) :
    (∃ tag tra e, f = .handler 0b00#2 tag tra e ∧ i = decodeEv tag tra e)
      ∨ (∃ tag tra e, f = .handler 0b01#2 tag tra e ∧ i = decodeEr tag tra e)
      ∨ (∃ op b16 low, f = .operation 0b10#2 op b16 low ∧ decodeTk op b16 low p = .ok i)
      ∨ ∃ op b16 low, f = .operation 0b11#2 op b16 low ∧ decodeBus op b16 low = .ok i := by
  unfold decodeFields at h
  split_ifs at h with hres hev hop her hop hstage htk
  · cases h
    exact .inl ⟨_, _, _, hev ▸ Fields.eq_handler hop (not_not.mp hres), rfl⟩
  · cases h
    exact .inr (.inl ⟨_, _, _, her ▸ Fields.eq_handler hop (not_not.mp hres), rfl⟩)
  · exact .inr (.inr (.inl ⟨_, _, _, htk ▸ Fields.eq_operation (not_not.mp hstage) (not_not.mp hres), h⟩))
  · have hbus : f.src = 0b11#2 := by simpa [hev, her, htk] using src_cases f.src
    exact .inr (.inr (.inr ⟨_, _, _, hbus ▸ Fields.eq_operation (not_not.mp hstage) (not_not.mp hres), h⟩))

/-! ### What each agent's rows decode to -/

section EventRows
/-! The rows of rule R90, in their order. -/

variable {tag : StageTag} {tra : Bool} {e : Reg}

theorem decodeEv_addrRead (haddr : e.getLsbD 1 = true) : decodeEv tag true e = .evtAddrRead tag e := by
  simp_all [decodeEv]

theorem decodeEv_addrWrite (haddr : e.getLsbD 1 = true) : decodeEv tag false e = .evtAddrWrite tag e := by
  simp_all [decodeEv]

theorem decodeEv_txByte (haddr : e.getLsbD 1 = false) (htxe : e.getLsbD 7 = true) :
    decodeEv .transmitting tra e = .evtTxByte tra e := by
  simp_all [decodeEv]

theorem decodeEv_txResync (haddr : e.getLsbD 1 = false) (htxe : e.getLsbD 7 = false) :
    decodeEv .transmitting tra e = .evtTxResync tra e := by
  simp_all [decodeEv]

theorem decodeEv_rxByte (haddr : e.getLsbD 1 = false) (hrxne : e.getLsbD 6 = true) :
    decodeEv .receiving tra e = .evtRxByte tra e := by
  simp_all [decodeEv]

theorem decodeEv_rxStop (haddr : e.getLsbD 1 = false) (hrxne : e.getLsbD 6 = false) (hstopf : e.getLsbD 4 = true) :
    decodeEv .receiving tra e = .evtRxStop tra e := by
  simp_all [decodeEv]

theorem decodeEv_rxIdle (haddr : e.getLsbD 1 = false) (hrxne : e.getLsbD 6 = false) (hstopf : e.getLsbD 4 = false) :
    decodeEv .receiving tra e = .evtRxIdle tra e := by
  simp_all [decodeEv]

theorem decodeEv_resync (haddr : e.getLsbD 1 = false) (hidle : tag.isIdle = true) :
    decodeEv tag tra e = .evtResync tag tra e := by
  cases tag <;> simp_all [decodeEv, StageTag.isIdle]

end EventRows

section ErrorRows
/-! The rows of rule R91, in their order. -/

variable {tag : StageTag} {tra : Bool} {e : Reg}

theorem decodeEr_nackEnd (haf : e.getLsbD 10 = true) : decodeEr .transmitting tra e = .errNackEnd tra e := if_pos haf

theorem decodeEr_recoverTx (haf : e.getLsbD 10 = false) : decodeEr .transmitting tra e = .errRecoverTx tra e := by
  simp_all [decodeEr]

theorem decodeEr_recoverRx : decodeEr .receiving tra e = .errRecoverRx tra e := rfl

theorem decodeEr_recoverIdle (hidle : tag.isIdle = true) : decodeEr tag tra e = .errRecoverIdle tag tra e := by
  cases tag with
  | waiting | receivedDataReady => rfl
  | receiving | transmitting => cases hidle

end ErrorRows

/-- An EV word decodes to an instruction that has the word's fields and its row's fixed bits (rule R90). -/
theorem decodeEv_spec (tag : StageTag) (tra : Bool) (e : Reg) (n : Nat) :
    (decodeEv tag tra e).fields = .handler 0b00#2 tag tra e ∧ (decodeEv tag tra e).wellFormed n = true := by
  cases haddr : e.getLsbD 1 with
  | true =>
    cases tra with
    | true => rw [decodeEv_addrRead haddr]; exact ⟨rfl, haddr⟩
    | false => rw [decodeEv_addrWrite haddr]; exact ⟨rfl, haddr⟩
  | false =>
    cases tag with
    | waiting | receivedDataReady =>
      rw [decodeEv_resync haddr rfl]; exact ⟨rfl, by simp_all [Instr.wellFormed, StageTag.isIdle]⟩
    | transmitting =>
      cases htxe : e.getLsbD 7 with
      | true => rw [decodeEv_txByte haddr htxe]; exact ⟨rfl, by simp_all [Instr.wellFormed]⟩
      | false => rw [decodeEv_txResync haddr htxe]; exact ⟨rfl, by simp_all [Instr.wellFormed]⟩
    | receiving =>
      cases hrxne : e.getLsbD 6 with
      | true => rw [decodeEv_rxByte haddr hrxne]; exact ⟨rfl, by simp_all [Instr.wellFormed]⟩
      | false =>
        cases hstopf : e.getLsbD 4 with
        | true => rw [decodeEv_rxStop haddr hrxne hstopf]; exact ⟨rfl, by simp_all [Instr.wellFormed]⟩
        | false => rw [decodeEv_rxIdle haddr hrxne hstopf]; exact ⟨rfl, by simp_all [Instr.wellFormed]⟩

/-- An ER word decodes to an instruction that has the word's fields and its row's fixed bits (rule R91). -/
theorem decodeEr_spec (tag : StageTag) (tra : Bool) (e : Reg) (n : Nat) :
    (decodeEr tag tra e).fields = .handler 0b01#2 tag tra e ∧ (decodeEr tag tra e).wellFormed n = true := by
  cases tag with
  | transmitting =>
    cases haf : e.getLsbD 10 with
    | true => rw [decodeEr_nackEnd haf]; exact ⟨rfl, haf⟩
    | false => rw [decodeEr_recoverTx haf]; exact ⟨rfl, by simp_all [Instr.wellFormed]⟩
  | receiving | waiting | receivedDataReady => exact ⟨rfl, rfl⟩

/-- Only an enqueue has an operand outside its word (rule R87). -/
theorem Instr.operand_eq_nil {i : Instr} (h : i.isTk = false) : i.operand = [] := by
  cases i with
  | tkEnqueue p => cases h
  | _ => rfl

/-- A TK word that decodes has the instruction's fields, so no bit of it is unused (rule R92). -/
theorem decodeTk_ok {op : BitVec 4} {b16 : Bool} {low : Reg} {p : Packet} {i : Instr}
    (h : decodeTk op b16 low p = .ok i) :
    i.fields = .operation 0b10#2 op b16 low ∧ i.wellFormed p.length = true
      ∧ (i = .tkEnqueue p ∨ i.operand = []) := by
  unfold decodeTk at h
  split_ifs at h with hop hlow hop hlow hop hlow hop hlow hop hlow <;> cases h
  · exact ⟨by rw [Instr.fields, setWidth_low_part (by decide) hlow, hop], rfl, .inr rfl⟩
  all_goals simp_all [Instr.fields, Instr.wellFormed, Instr.operand]

/-- A BUS word that decodes has the instruction's fields, so no bit of it is unused (rule R93). -/
theorem decodeBus_ok {op : BitVec 4} {b16 : Bool} {low : Reg} {i : Instr}
    (h : decodeBus op b16 low = .ok i) (n : Nat) :
    i.fields = .operation 0b11#2 op b16 low ∧ i.wellFormed n = true := by
  unfold decodeBus at h
  split_ifs at h with hop hlow hop hlow' hop hlow hop hlow' hop hlow' <;> cases h
  · exact ⟨by rw [Instr.fields, hop, hlow], rfl⟩
  · obtain ⟨rfl, hlow⟩ : b16 = false ∧ low.extractLsb' 8 8 = 0#8 := by simpa using hlow'
    exact ⟨by rw [Instr.fields, setWidth_low_part (by decide) hlow, hop], rfl⟩
  · exact ⟨by rw [Instr.fields, hop, hlow], rfl⟩
  · obtain ⟨rfl, hlow⟩ : b16 = false ∧ low = 0#16 := by simpa using hlow'
    exact ⟨by rw [Instr.fields, hop, hlow], rfl⟩
  · obtain ⟨⟨rfl, hlow⟩, hbit⟩ : (b16 = false ∧ low.extractLsb' 0 8 = 0#8) ∧ low.getLsbD 13 = false := by
      simpa using hlow'
    exact ⟨by rw [Instr.fields, high_byte_append_zero hlow, hop], by simpa [Instr.wellFormed] using hbit⟩

/-- The instruction that fields decode to has those fields, its row's fixed bits, and the operand given or none. -/
theorem decodeFields_sound {f : Fields} {p : Packet} {i : Instr} (h : decodeFields f p = .ok i) :
    i.fields = f ∧ i.wellFormed p.length = true ∧ (i = .tkEnqueue p ∨ i.operand = []) := by
  rcases decodeFields_ok h with ⟨tag, tra, e, rfl, rfl⟩ | ⟨tag, tra, e, rfl, rfl⟩ | ⟨op, b16, low, rfl, hd⟩
    | ⟨op, b16, low, rfl, hd⟩
  · obtain ⟨hf, hw⟩ := decodeEv_spec tag tra e p.length
    exact ⟨hf, hw, .inr (Instr.operand_eq_nil (by rw [Instr.isTk, hf]; rfl))⟩
  · obtain ⟨hf, hw⟩ := decodeEr_spec tag tra e p.length
    exact ⟨hf, hw, .inr (Instr.operand_eq_nil (by rw [Instr.isTk, hf]; rfl))⟩
  · exact decodeTk_ok hd
  · obtain ⟨hf, hw⟩ := decodeBus_ok hd p.length
    exact ⟨hf, hw, .inr (Instr.operand_eq_nil (by rw [Instr.isTk, hf]; rfl))⟩

/-- Settles O2: the instruction has the fields of the word, and fields determine their word. -/
theorem decodedWordReencodes : Obligations.DecodedWordReencodes := by
  intro w p i h
  obtain ⟨hf, hw, hp⟩ := decodeFields_sound h
  exact ⟨by rw [encode, hf, Fields.toWord_ofWord], hw, hp⟩

/-- Settles O1: the fixed bits of the instruction's row choose its case of the decoder, which reads its free fields
back. -/
theorem decodeEncodeAgree : Obligations.DecodeEncodeAgree := by
  intro n i hw
  rw [decode_encode_fields]
  cases i with
  | evtAddrRead tag e => rw [Instr.fields, decodeFields_ev, decodeEv_addrRead hw]
  | evtAddrWrite tag e => rw [Instr.fields, decodeFields_ev, decodeEv_addrWrite hw]
  | evtTxByte tra e =>
    obtain ⟨haddr, htxe⟩ : e.getLsbD 1 = false ∧ e.getLsbD 7 = true := by simpa [Instr.wellFormed] using hw
    rw [Instr.fields, decodeFields_ev, decodeEv_txByte haddr htxe]
  | evtTxResync tra e =>
    obtain ⟨haddr, htxe⟩ : e.getLsbD 1 = false ∧ e.getLsbD 7 = false := by simpa [Instr.wellFormed] using hw
    rw [Instr.fields, decodeFields_ev, decodeEv_txResync haddr htxe]
  | evtRxByte tra e =>
    obtain ⟨haddr, hrxne⟩ : e.getLsbD 1 = false ∧ e.getLsbD 6 = true := by simpa [Instr.wellFormed] using hw
    rw [Instr.fields, decodeFields_ev, decodeEv_rxByte haddr hrxne]
  | evtRxStop tra e =>
    obtain ⟨⟨haddr, hrxne⟩, hstopf⟩ : (e.getLsbD 1 = false ∧ e.getLsbD 6 = false) ∧ e.getLsbD 4 = true := by
      simpa [Instr.wellFormed] using hw
    rw [Instr.fields, decodeFields_ev, decodeEv_rxStop haddr hrxne hstopf]
  | evtRxIdle tra e =>
    obtain ⟨⟨haddr, hrxne⟩, hstopf⟩ : (e.getLsbD 1 = false ∧ e.getLsbD 6 = false) ∧ e.getLsbD 4 = false := by
      simpa [Instr.wellFormed] using hw
    rw [Instr.fields, decodeFields_ev, decodeEv_rxIdle haddr hrxne hstopf]
  | evtResync tag tra e =>
    obtain ⟨hidle, haddr⟩ : tag.isIdle = true ∧ e.getLsbD 1 = false := by simpa [Instr.wellFormed] using hw
    rw [Instr.fields, decodeFields_ev, decodeEv_resync haddr hidle]
  | errNackEnd tra e => rw [Instr.fields, decodeFields_er, decodeEr_nackEnd hw]
  | errRecoverTx tra e =>
    have haf : e.getLsbD 10 = false := by simpa [Instr.wellFormed] using hw
    rw [Instr.fields, decodeFields_er, decodeEr_recoverTx haf]
  | errRecoverRx tra e => rw [Instr.fields, decodeFields_er, decodeEr_recoverRx]
  | errRecoverIdle tag tra e => rw [Instr.fields, decodeFields_er, decodeEr_recoverIdle hw]
  | tkInit ictx a =>
    rw [Instr.fields, decodeFields_tk, decodeTk, if_pos rfl, if_pos (high_part_setWidth a),
      low_part_setWidth (by decide)]
  | tkEnqueue | tkPoll | tkRegister | tkTeardown => simp [Instr.fields, Instr.operand, decodeTk]
  | busWrite b =>
    simp [Instr.fields, decodeBus, high_part_setWidth (w := 16) b, low_part_setWidth]
  | busFault flags =>
    simp_all [Instr.wellFormed, Instr.fields, decodeBus, low_byte_of_append, high_byte_of_append,
      reserved_bit_of_append]
  | busAddr | busRead | busStop => simp [Instr.fields, decodeBus]

end Sys2Proof
end

section
/-! The opcode map (rules R89 to R94): its rows exclude each other, and the decoder answers exactly the row that selects
the word. -/

namespace Sys2Proof

/-- Two rows whose patterns differ in a bit that both masks fix select no word together. -/
theorem Row.not_both_select {a b : Row} (h : a.pattern &&& b.mask ≠ b.pattern &&& a.mask) (w : Word) :
    ¬(a.selects w = true ∧ b.selects w = true) := by
  simp only [Row.selects, beq_iff_eq]
  rintro ⟨ha, hb⟩
  exact h (by rw [← ha, ← hb, BitVec.and_assoc, BitVec.and_assoc, BitVec.and_comm a.mask])

/-- Settles O4: any two rows' patterns differ in a bit that both masks fix. -/
theorem opcodeRowsAreExclusive : Obligations.OpcodeRowsAreExclusive := by
  intro w
  have hdiffer : opcodeMap.Pairwise fun a b => a.pattern &&& b.mask ≠ b.pattern &&& a.mask := by decide
  exact hdiffer.imp fun h => Row.not_both_select h w

open Fields in
/-- A row selects a word field by field. -/
theorem Row.selects_iff (r : Row) (w : Word) : r.selects w = true ↔
    (ofWord w).src &&& (ofWord r.mask).src = (ofWord r.pattern).src
      ∧ (ofWord w).stage &&& (ofWord r.mask).stage = (ofWord r.pattern).stage
      ∧ (ofWord w).op &&& (ofWord r.mask).op = (ofWord r.pattern).op
      ∧ (ofWord w).res &&& (ofWord r.mask).res = (ofWord r.pattern).res
      ∧ (ofWord w).b16 &&& (ofWord r.mask).b16 = (ofWord r.pattern).b16
      ∧ (ofWord w).low &&& (ofWord r.mask).low = (ofWord r.pattern).low := by
  have hinj : Function.Injective ofWord := Function.LeftInverse.injective toWord_ofWord
  rw [Row.selects, beq_iff_eq, ← hinj.eq_iff]
  simp only [ofWord, BitVec.extractLsb'_and, Fields.mk.injEq]

/-! ### What the masks ask of each field -/

@[simp] theorem and_ones_src (v : BitVec 2) : v &&& 3#2 = v := BitVec.and_allOnes
@[simp] theorem and_ones_op (v : BitVec 4) : v &&& 15#4 = v := BitVec.and_allOnes
@[simp] theorem and_ones_res (v : BitVec 7) : v &&& 127#7 = v := BitVec.and_allOnes
@[simp] theorem and_ones_b16 (v : BitVec 1) : v &&& 1#1 = v := BitVec.and_allOnes
@[simp] theorem and_ones_low (v : Reg) : v &&& 65535#16 = v := BitVec.and_allOnes

@[simp] theorem StageTag.ofBits_receiving : StageTag.ofBits 2#2 = .receiving := rfl
@[simp] theorem StageTag.ofBits_transmitting : StageTag.ofBits 3#2 = .transmitting := rfl

/-- The pattern `STAGE[1] = 0` of rule R83. -/
theorem stage_idle_iff (v : BitVec 2) : v &&& 2#2 = 0#2 ↔ (StageTag.ofBits v).isIdle = true := by
  revert v; decide

/-- A mask that is exactly the bits in `flags` compares those bits. -/
theorem and_eq_iff_flags {v k m : Reg} (flags : List Nat) (hk : ∀ i < 16, k.getLsbD i = decide (i ∈ flags))
    (hm : m &&& k = m) : v &&& k = m ↔ ∀ i ∈ flags, v.getLsbD i = m.getLsbD i := by
  constructor
  · rintro rfl i hi
    rcases Nat.lt_or_ge i 16 with hlt | hge
    · rw [BitVec.getLsbD_and, hk i hlt, decide_eq_true hi, Bool.and_true]
    · rw [BitVec.getLsbD_of_ge _ _ hge, BitVec.getLsbD_of_ge _ _ hge]
  · intro h
    apply BitVec.eq_of_getLsbD_eq
    intro i hlt
    rw [← hm, BitVec.getLsbD_and, BitVec.getLsbD_and, hk i hlt]
    by_cases hi : i ∈ flags
    · rw [h i hi]
    · rw [decide_eq_false hi, Bool.and_false, Bool.and_false]

/-- The mask of the bits from `k` on. -/
theorem and_high_eq_zero_iff {w k : Nat} (hk : k ≤ w) {v : BitVec w} :
    v &&& (BitVec.allOnes w <<< k) = 0#w ↔ v.extractLsb' k (w - k) = 0#(w - k) := by
  simp only [bits_eq_iff, Fin.forall_iff]
  constructor
  · intro h i hi
    simpa [show k + i < w by omega, hi] using h (k + i) (by omega)
  · intro h i hi
    rcases Nat.lt_or_ge i k with hik | hik
    · simp [hik]
    · have hbit := h (i - k) (by omega)
      rw [BitVec.getLsbD_extractLsb', Nat.add_sub_cancel' hik, decide_eq_true (by omega), Bool.true_and] at hbit
      simp only [BitVec.getLsbD_and, hbit, Bool.false_and, BitVec.getLsbD_zero]

section LowConditions
/-! The conditions of rules R90 to R93 on LOW, as the masks and matches state them. -/

variable (e : Reg)

theorem addr_set_iff : e &&& 0x0002#16 = 0x0002#16 ↔ e.getLsbD 1 = true :=
  (and_eq_iff_flags [1] (by decide) rfl).trans (by simp)

theorem addr_clear_iff : e &&& 0x0002#16 = 0x0000#16 ↔ e.getLsbD 1 = false :=
  (and_eq_iff_flags [1] (by decide) rfl).trans (by simp)

theorem txByte_flags_iff : e &&& 0x0082#16 = 0x0080#16 ↔ e.getLsbD 1 = false ∧ e.getLsbD 7 = true :=
  (and_eq_iff_flags [1, 7] (by decide) rfl).trans (by simp)

theorem txResync_flags_iff : e &&& 0x0082#16 = 0x0000#16 ↔ e.getLsbD 1 = false ∧ e.getLsbD 7 = false :=
  (and_eq_iff_flags [1, 7] (by decide) rfl).trans (by simp)

theorem rxByte_flags_iff : e &&& 0x0042#16 = 0x0040#16 ↔ e.getLsbD 1 = false ∧ e.getLsbD 6 = true :=
  (and_eq_iff_flags [1, 6] (by decide) rfl).trans (by simp)

theorem rxStop_flags_iff :
    e &&& 0x0052#16 = 0x0010#16 ↔ e.getLsbD 1 = false ∧ e.getLsbD 6 = false ∧ e.getLsbD 4 = true :=
  (and_eq_iff_flags [1, 6, 4] (by decide) rfl).trans (by simp)

theorem rxIdle_flags_iff :
    e &&& 0x0052#16 = 0x0000#16 ↔ e.getLsbD 1 = false ∧ e.getLsbD 6 = false ∧ e.getLsbD 4 = false :=
  (and_eq_iff_flags [1, 6, 4] (by decide) rfl).trans (by simp)

theorem af_set_iff : e &&& 0x0400#16 = 0x0400#16 ↔ e.getLsbD 10 = true :=
  (and_eq_iff_flags [10] (by decide) rfl).trans (by simp)

theorem af_clear_iff : e &&& 0x0400#16 = 0x0000#16 ↔ e.getLsbD 10 = false :=
  (and_eq_iff_flags [10] (by decide) rfl).trans (by simp)

theorem init_unused_zero_iff : e &&& 0xFF80#16 = 0#16 ↔ e.extractLsb' 7 9 = 0#9 :=
  and_high_eq_zero_iff (k := 7) (by decide)

theorem write_unused_zero_iff : e &&& 0xFF00#16 = 0#16 ↔ e.extractLsb' 8 8 = 0#8 :=
  and_high_eq_zero_iff (k := 8) (by decide)

theorem fault_unused_zero_iff : e &&& 0x20FF#16 = 0#16 ↔ e.extractLsb' 0 8 = 0#8 ∧ e.getLsbD 13 = false := by
  simp [bits_eq_iff, Fin.forall_fin_succ, and_assoc]

end LowConditions

/-! ### The row of an instruction -/

/-- A word that a row selects decodes to an instruction of that row. -/
theorem decode_of_selects {r : Row} (hr : r ∈ opcodeMap) {w : Word} (h : r.selects w = true) (p : Packet) :
    ∃ i, decode w p = .ok i ∧ i.mnemonic = r.mnemonic := by
  rw [Row.selects_iff] at h
  rw [decode]
  generalize Fields.ofWord w = f at *
  obtain ⟨src, stage, op, res, b16, low⟩ := f
  simp only [opcodeMap, List.mem_append, List.mem_cons, List.not_mem_nil, or_false] at hr
  rcases hr with ((hev | her) | htk) | hbus
  · rcases hev with rfl | rfl | rfl | rfl | rfl | rfl | rfl | rfl <;>
      simp_all [Fields.ofWord, stage_idle_iff, addr_set_iff, addr_clear_iff, txByte_flags_iff, txResync_flags_iff,
        rxByte_flags_iff, rxStop_flags_iff, rxIdle_flags_iff, decodeFields, decodeEv_addrRead, decodeEv_addrWrite,
        decodeEv_txByte, decodeEv_txResync, decodeEv_rxByte, decodeEv_rxStop, decodeEv_rxIdle, decodeEv_resync,
        Instr.mnemonic]
  · rcases her with rfl | rfl | rfl | rfl <;>
      simp_all [Fields.ofWord, stage_idle_iff, af_set_iff, af_clear_iff, decodeFields, decodeEr_nackEnd,
        decodeEr_recoverTx, decodeEr_recoverRx, decodeEr_recoverIdle, Instr.mnemonic]
  · rcases htk with rfl | rfl | rfl | rfl | rfl <;>
      simp_all [Fields.ofWord, init_unused_zero_iff, decodeFields, decodeTk, Instr.mnemonic]
  · rcases hbus with rfl | rfl | rfl | rfl | rfl <;>
      simp_all [Fields.ofWord, write_unused_zero_iff, fault_unused_zero_iff, decodeFields, decodeBus, Instr.mnemonic]

/-- The row of an instruction, by its place in the opcode map. -/
def Instr.row : Instr → Row
  | .evtAddrRead _ _ => opcodeMap[0]
  | .evtAddrWrite _ _ => opcodeMap[1]
  | .evtTxByte _ _ => opcodeMap[2]
  | .evtTxResync _ _ => opcodeMap[3]
  | .evtRxByte _ _ => opcodeMap[4]
  | .evtRxStop _ _ => opcodeMap[5]
  | .evtRxIdle _ _ => opcodeMap[6]
  | .evtResync _ _ _ => opcodeMap[7]
  | .errNackEnd _ _ => opcodeMap[8]
  | .errRecoverTx _ _ => opcodeMap[9]
  | .errRecoverRx _ _ => opcodeMap[10]
  | .errRecoverIdle _ _ _ => opcodeMap[11]
  | .tkInit _ _ => opcodeMap[12]
  | .tkEnqueue _ => opcodeMap[13]
  | .tkPoll => opcodeMap[14]
  | .tkRegister => opcodeMap[15]
  | .tkTeardown => opcodeMap[16]
  | .busAddr _ => opcodeMap[17]
  | .busWrite _ => opcodeMap[18]
  | .busRead _ => opcodeMap[19]
  | .busStop => opcodeMap[20]
  | .busFault _ => opcodeMap[21]

theorem Instr.row_mem (i : Instr) : i.row ∈ opcodeMap := by
  cases i <;> exact List.getElem_mem _

theorem Instr.row_mnemonic (i : Instr) : i.row.mnemonic = i.mnemonic := by
  cases i <;> rfl

/-- No two rows have one mnemonic. -/
theorem Instr.eq_row {i : Instr} {r : Row} (hr : r ∈ opcodeMap) (h : r.mnemonic = i.mnemonic) : r = i.row := by
  have hnodup : (opcodeMap.map Row.mnemonic).Nodup := by decide
  exact List.inj_on_of_nodup_map hnodup hr i.row_mem (h.trans i.row_mnemonic.symm)

theorem StageTag.bits_idle_iff (tag : StageTag) : tag.bits &&& 2#2 = 0#2 ↔ tag.isIdle = true := by
  rw [stage_idle_iff, StageTag.ofBits_bits]

@[simp] theorem StageTag.bits_receiving : StageTag.receiving.bits = 2#2 := rfl
@[simp] theorem StageTag.bits_transmitting : StageTag.transmitting.bits = 3#2 := rfl

/-- The row of a well-formed instruction selects its word. -/
theorem Instr.row_selects_encode {n : Nat} {i : Instr} (hw : i.wellFormed n = true) :
    i.row.selects (encode i) = true := by
  rw [Row.selects_iff, encode, Fields.ofWord_toWord]
  cases i with
  | evtAddrRead | evtAddrWrite | evtTxByte | evtTxResync | evtRxByte | evtRxStop | evtRxIdle | evtResync =>
    simp only [Instr.row, Instr.fields, Fields.handler, Instr.wellFormed] at hw ⊢
    simp_all [opcodeMap, Fields.ofWord, StageTag.bits_idle_iff, addr_set_iff, addr_clear_iff, txByte_flags_iff,
      txResync_flags_iff, rxByte_flags_iff, rxStop_flags_iff, rxIdle_flags_iff]
  | errNackEnd | errRecoverTx | errRecoverRx | errRecoverIdle =>
    simp only [Instr.row, Instr.fields, Fields.handler, Instr.wellFormed] at hw ⊢
    simp_all [opcodeMap, Fields.ofWord, StageTag.bits_idle_iff, af_set_iff, af_clear_iff]
  | tkInit ictx a =>
    simp only [Instr.row, Instr.fields, Fields.operation]
    simp [opcodeMap, Fields.ofWord, init_unused_zero_iff, high_part_setWidth (w := 16) a]
  | busWrite b =>
    simp only [Instr.row, Instr.fields, Fields.operation]
    simp [opcodeMap, Fields.ofWord, write_unused_zero_iff, high_part_setWidth (w := 16) b]
  | busFault flags =>
    simp only [Instr.row, Instr.fields, Fields.operation, Instr.wellFormed] at hw ⊢
    simp_all [opcodeMap, Fields.ofWord, fault_unused_zero_iff, low_byte_of_append, reserved_bit_of_append]
  | tkEnqueue | tkPoll | tkRegister | tkTeardown | busAddr | busRead | busStop =>
    simp only [Instr.row, Instr.fields, Fields.operation]
    simp [opcodeMap, Fields.ofWord]

/-- Settles O3: a row that selects a word has the mnemonic of the instruction the word decodes to, and the row with that
mnemonic selects the word, because it is the word of the instruction. -/
theorem decoderFollowsOpcodeMap : Obligations.DecoderFollowsOpcodeMap := by
  refine ⟨fun w p i h r hr => ⟨fun hsel => ?_, fun hm => ?_⟩, fun w p x h r hr => ?_⟩
  · obtain ⟨j, hj, hjr⟩ := decode_of_selects hr hsel p
    cases h.symm.trans hj
    exact hjr.symm
  · obtain ⟨rfl, hw, -⟩ := decodedWordReencodes w p i h
    rw [Instr.eq_row hr hm]
    exact Instr.row_selects_encode hw
  · refine Bool.eq_false_iff.mpr fun hsel => ?_
    obtain ⟨j, hj, -⟩ := decode_of_selects hr hsel p
    cases h.symm.trans hj

end Sys2Proof
end

section
/-! The words the schedule gives a step (rules R88, R94, R97): the handler words, which always decode, and a reserved
word. -/

namespace Sys2Proof.Machine

/-- The EV word of a state decodes by the EV rows (rules R88, R89). -/
theorem State.decode_evWord (s : State) (p : Packet) :
    decode (s.handlerWord 0b00#2) p = .ok (decodeEv s.stage.tag s.regs.tra s.regs.sr1) := by
  rw [decode, State.handlerWord, Fields.ofWord_toWord, decodeFields_ev]

/-- The ER word of a state decodes by the ER rows (rules R88, R89). -/
theorem State.decode_erWord (s : State) (p : Packet) :
    decode (s.handlerWord 0b01#2) p = .ok (decodeEr s.stage.tag s.regs.tra s.regs.sr1) := by
  rw [decode, State.handlerWord, Fields.ofWord_toWord, decodeFields_er]

/-- Settles O5: the EV and the ER rows are complete, and what they decode to has the word's fields. -/
theorem handlerWordsAlwaysDecode : Obligations.HandlerWordsAlwaysDecode := by
  intro s
  obtain ⟨hev, -⟩ := decodeEv_spec s.stage.tag s.regs.tra s.regs.sr1 0
  obtain ⟨her, -⟩ := decodeEr_spec s.stage.tag s.regs.tra s.regs.sr1 0
  exact ⟨⟨_, s.decode_evWord [], by rw [Instr.isEv, hev]; rfl, hev⟩,
    ⟨_, s.decode_erWord [], by rw [Instr.isEr, her]; rfl, her⟩⟩

/-! ### What the fetch takes from the schedule -/

section Fetch
variable {s : State} {cs : List Choice}

theorem State.fetch_ev (hs : s.run.sched = .ev :: cs) :
    s.fetch = (some (s.handlerItem 0b00#2), { s with run := { s.run with sched := cs, draw := none } }) := by
  rw [State.fetch, hs]
  rfl

theorem State.fetch_er (hs : s.run.sched = .er :: cs) :
    s.fetch = (some (s.handlerItem 0b01#2), { s with run := { s.run with sched := cs, draw := none } }) := by
  rw [State.fetch, hs]
  rfl

/-- A reserved word takes no call from the task program. -/
theorem State.fetch_reserved {x : StepItem} {e : Reject} (hs : s.run.sched = .word x :: cs)
    (hd : decode x.word x.operand = .error e) :
    s.fetch = (some x, { s with run := { s.run with sched := cs, draw := x.draw } }) := by
  simp only [State.fetch, hs, State.fetchWord, hd]

end Fetch

/-- Settles O8: the fetch names the formed word, which decodes to a well-formed instruction. -/
theorem lineChoiceRunsTheFormedWord : Obligations.LineChoiceRunsTheFormedWord := by
  intro s cs hm ha
  constructor
  · intro hs
    obtain ⟨hf, hw⟩ := decodeEv_spec s.stage.tag s.regs.tra s.regs.sr1 s.cfg.packetLen
    have hd := s.decode_evWord []
    exact ⟨_, hd, hw, hf, (stepRunsTheDecodedInstruction s _ _ _ hm ha (State.fetch_ev hs) hd hw).1⟩
  · intro hs
    obtain ⟨hf, hw⟩ := decodeEr_spec s.stage.tag s.regs.tra s.regs.sr1 s.cfg.packetLen
    have hd := s.decode_erWord []
    exact ⟨_, hd, hw, hf, (stepRunsTheDecodedInstruction s _ _ _ hm ha (State.fetch_er hs) hd hw).1⟩

/-- Settles O6: the decoder on eight words. -/
theorem wordsFromTheTablesDecode : Obligations.WordsFromTheTablesDecode := by
  unfold Obligations.WordsFromTheTablesDecode
  decide

/-- Settles O9: the fetch takes a reserved word from the schedule alone, and issuing it sets the mark. -/
theorem reservedWordIsRefused : Obligations.ReservedWordIsRefused := by
  intro s x cs e hm ha hs hd
  rw [step, State.takeStep, hm, ha, State.fetch_reserved hs hd]
  simp only [Bool.false_eq_true, Bool.not_true, if_false, State.issue, hd]
  exact congrArg Host.Outcome.next
    (State.refuse_unmarked (s := { s with run := { s.run with sched := cs, draw := x.draw } }) hm .reservedEncoding)

end Sys2Proof.Machine
end

section
/-! When a handler step is enabled, and what a handler step of a word that the state forms answers (rules R88, R101,
R131, R215). -/

namespace Sys2Proof.Machine

theorem State.unmarked_iff (s : State) : s.marked = false ↔ s.fault = none ∧ s.refused = none := by
  simp [State.marked]

/-- The order of rule R215 holds a handler back only by the order that names the other one and by the other line. -/
theorem irqOrder_allows_iff (o o' : IrqOrder) (line : Bool) :
    (o == o' && line) = false ↔ (o = o' → line = false) := by
  cases line <;> simp

theorem State.evEnabled_iff (s : State) : s.evEnabled = true ↔
    s.life = .active ∧ s.fault = none ∧ s.refused = none ∧ s.clkEn = true ∧ s.evEn = true ∧ s.evLine = true
      ∧ (s.cfg.irqOrder = .erFirst → s.erLine = false) := by
  simp only [State.evEnabled, Bool.and_eq_true, irqOrder_allows_iff, Bool.not_eq_true', State.unmarked_iff, beq_iff_eq]
  tauto

theorem State.erEnabled_iff (s : State) : s.erEnabled = true ↔
    s.life = .active ∧ s.fault = none ∧ s.refused = none ∧ s.clkEn = true ∧ s.erEn = true ∧ s.erLine = true
      ∧ (s.cfg.irqOrder = .evFirst → s.evLine = false) := by
  simp only [State.erEnabled, Bool.and_eq_true, irqOrder_allows_iff, Bool.not_eq_true', State.unmarked_iff, beq_iff_eq]
  tauto

/-- Settles O15: the conditions of each handler, conjunct by conjunct. -/
theorem handlersAreEnabledExactly : Obligations.HandlersAreEnabledExactly := fun s =>
  ⟨s.evEnabled_iff, s.erEnabled_iff⟩

theorem State.forms_of_eq {s : State} {tag : StageTag} {tra : Bool} {e : Reg} (htag : s.stage.tag = tag)
    (htra : s.regs.tra = tra) (hsr1 : s.regs.sr1 = e) : s.forms tag tra e = true := by
  simp [State.forms, htag, htra, hsr1]

/-- A gated body whose condition holds answers the state the body gives. -/
theorem attempt_eq_next {s t : State} {en : Bool} {body : State → State} (hen : en = true) (ht : body s = t) :
    s.attempt en body = .next t := by
  rw [hen, attempt_enabled, ht]

end Sys2Proof.Machine
end

section
/-! The event handler (rules R104 to R115): the next state of each EV row in a state that forms its word. -/

namespace Sys2Proof.Machine

/-! ### The registers after the entry read and one access -/

/-- The entry read arms a pending ADDR, so the read of SR2 clears it (rules R64, R65). -/
theorem Regs.readSR2_after_entry {r : Regs} (h : r.sr1.getLsbD 1 = true) :
    r.readSR1.2.readSR2.2 =
      { r with sr1 := r.sr1 &&& 0xFFFD#16, addrArmed := false, stopfArmed := r.sr1.getLsbD 4 } :=
  Regs.readSR2_of_armed h

theorem Regs.readSR1_of_no_addr {r : Regs} (h : r.sr1.getLsbD 1 = false) :
    r.readSR1.2 = { r with addrArmed := false, stopfArmed := r.sr1.getLsbD 4 } := by
  rw [Regs.readSR1_eq, h]

/-- The entry read arms a pending STOPF, so the first write of CR1 clears it; the second withholds ACK (rules R68, R109,
R113). -/
theorem Regs.stopServed_after_entry {r : Regs} (haddr : r.sr1.getLsbD 1 = false) (hstop : r.sr1.getLsbD 4 = true) :
    r.readSR1.2.clearStop.clearAck = { r with
      cr1 := r.cr1 &&& 0xBBFB#16
      sr1 := r.sr1 &&& 0xFFEF#16
      addrArmed := false
      stopfArmed := false } := by
  rw [Regs.readSR1_of_no_addr haddr, hstop, Regs.clearStop, Regs.touchCR1, Regs.writeCR1_of_armed rfl, Regs.clearAck,
    Regs.writeCR1_of_not_armed rfl]
  simp only [BitVec.and_assoc, BitVec.reduceNot, BitVec.reduceAnd]

/-! ### The packet and the queue of a read address match -/

theorem State.nextTxQueue_eq (s : State) :
    s.nextTxQueue = if s.cfg.txSource = .queueHeadOrDefault then s.txq.drop 1 else s.txq := by
  unfold State.nextTxQueue
  cases s.cfg.txSource with
  | queueHeadOrDefault => exact List.drop_one.symm
  | alwaysDefault => rfl

theorem State.nextTxPacket_eq (s : State) :
    s.nextTxPacket =
      if s.cfg.txSource = .queueHeadOrDefault then s.txq.headD s.cfg.defaultPacket else s.cfg.defaultPacket := by
  unfold State.nextTxPacket
  cases s.cfg.txSource with
  | queueHeadOrDefault => cases s.txq <;> rfl
  | alwaysDefault => rfl

/-- `SignalWake()` as one record update (rule R114). -/
theorem State.signalWake_eq (s : State) :
    s.signalWake = { s with wake := .empty, task := if s.wake = .registered then .polling else s.task } := by
  obtain ⟨_, _, _, _, wake⟩ := s
  cases wake <;> rfl

/-! ### The rows -/

/-- Settles O20: the read of SR2 clears the armed ADDR, and the packet and the queue are the next ones. -/
theorem evtAddrReadStartsTransmitting : Obligations.EvtAddrReadStartsTransmitting := by
  rintro s tag snap hen htag htra rfl haddr
  refine attempt_eq_next (by simp only [hen, State.forms_of_eq htag htra rfl, haddr, Bool.and_self]) ?_
  rw [State.armAddrRead, State.nextTxQueue_eq, State.nextTxPacket_eq, State.enterHandler_regs,
    Regs.readSR2_after_entry haddr]
  rfl

/-- Settles O21: the read of SR2 clears the armed ADDR. -/
theorem evtAddrWriteStartsReceiving : Obligations.EvtAddrWriteStartsReceiving := by
  rintro s tag snap hen htag htra rfl haddr
  refine attempt_eq_next (by simp only [hen, State.forms_of_eq htag htra rfl, haddr, Bool.and_self]) ?_
  rw [State.armAddrWrite, State.enterHandler_regs, Regs.readSR2_after_entry haddr]
  rfl

/-- Settles O22: the write of DR clears TXE and BTF. -/
theorem evtTxByteSendsTheNextByte : Obligations.EvtTxByteSendsTheNextByte := by
  rintro s pkt cur tra snap hen hst htra rfl haddr htxe
  have htag : s.stage.tag = .transmitting := congrArg Stage.tag hst
  have hforms := State.forms_of_eq htag htra rfl
  refine attempt_eq_next (by simp only [hen, hforms, haddr, htxe, Bool.not_false, Bool.and_self]) ?_
  simp only [State.armTxByte, State.enterHandler_stage, hst]
  rw [Regs.writeDR_eq, State.enterHandler_regs, Regs.readSR1_of_no_addr haddr]
  rfl

/-- The two resynchronisations answer the entry read and `Resync(E)` on the registers. -/
theorem State.armResync_of_no_addr {s : State} (haddr : s.regs.sr1.getLsbD 1 = false) :
    s.armResync s.regs.sr1 = { s with regs := { s.regs with
      cr1 := if s.regs.sr1.getLsbD 4 then s.regs.cr1 &&& 0xBFFB#16 else s.regs.cr1
      sr1 := if s.regs.sr1.getLsbD 6 then s.regs.sr1 &&& 0xFFAB#16 else s.regs.sr1 &&& 0xFFEF#16
      addrArmed := false
      stopfArmed := false } } :=
  congrArg (fun r => { s with regs := r }) (Regs.resync_after_entry s.regs haddr)

/-- Settles O23: both rows run the same arm. -/
theorem resynchronisationKeepsTheStage : Obligations.ResynchronisationKeepsTheStage := by
  rintro s tag tra snap hen htag htra rfl haddr
  have hforms := State.forms_of_eq htag htra rfl
  constructor
  · rintro rfl htxe
    exact attempt_eq_next (by simp only [hen, hforms, haddr, htxe, Bool.not_false, Bool.and_self])
      (State.armResync_of_no_addr haddr)
  · intro hidle
    have hidle : tag.isIdle = true := by rcases hidle with rfl | rfl <;> rfl
    exact attempt_eq_next (by simp only [hen, hforms, haddr, hidle, Bool.not_false, Bool.and_self])
      (State.armResync_of_no_addr haddr)

theorem State.drainByte_of_no_addr {s : State} (haddr : s.regs.sr1.getLsbD 1 = false) :
    s.drainByte = { s with regs := { s.regs with
      sr1 := s.regs.sr1 &&& 0xFFBB#16
      addrArmed := false
      stopfArmed := s.regs.sr1.getLsbD 4 } } := by
  rw [State.drainByte, Regs.readDR_eq, State.enterHandler_regs, Regs.readSR1_of_no_addr haddr]
  rfl

/-- Settles O24: the byte is drained in both cases, and stored exactly below capacity. -/
theorem evtRxByteStoresOrDropsTheByte : Obligations.EvtRxByteStoresOrDropsTheByte := by
  rintro s buf tra snap hen hst htra rfl haddr hrxne
  have htag : s.stage.tag = .receiving := congrArg Stage.tag hst
  have hforms := State.forms_of_eq htag htra rfl
  have hrun {t : State} (ht : s.armRxByte = t) : exec (.evtRxByte tra s.regs.sr1) s = .next t :=
    attempt_eq_next (by simp only [hen, hforms, haddr, hrxne, Bool.not_false, Bool.and_self]) ht
  constructor <;> intro hlen <;> apply hrun
  · have hstored : s.armRxByte = { s.drainByte with stage := .receiving (buf ++ [s.regs.dr]) } := by
      simp [State.armRxByte, State.drainByte, hst, hlen]
    rw [hstored, State.drainByte_of_no_addr haddr]
  · have hdropped : s.armRxByte = s.drainByte.emit [.rxOverflow s.regs.dr] := by
      simp [State.armRxByte, State.drainByte, hst, Nat.not_lt.mpr hlen]
    rw [hdropped, State.drainByte_of_no_addr haddr]
    rfl

theorem packetDiag_append (c : Params) (buf : List Byte) (ds : List DiagRecord) :
    ds ++ packetDiag c buf = if buf.length = c.packetLen then ds else ds ++ [.lenMismatch buf.length] := by
  unfold packetDiag
  split
  · exact List.append_nil ds
  · rfl

/-- Settles O25: the stop is served, the packet made with its diagnostic, and the waiter signalled. -/
theorem evtRxStopCompletesTheTransfer : Obligations.EvtRxStopCompletesTheTransfer := by
  rintro s buf tra snap hen hst htra rfl haddr hrxne hstop
  have htag : s.stage.tag = .receiving := congrArg Stage.tag hst
  have hforms := State.forms_of_eq htag htra rfl
  refine attempt_eq_next (by simp only [hen, hforms, haddr, hrxne, hstop, Bool.not_false, Bool.and_self]) ?_
  have harm : s.armRxStop = State.signalWake { s.stopServed.emit (packetDiag s.cfg buf) with
      stage := .receivedDataReady (packetOf s.cfg buf) } := by
    simp [State.armRxStop, State.stopServed, hst]
  rw [harm, State.signalWake_eq, State.stopServed, State.enterHandler_regs, Regs.stopServed_after_entry haddr hstop,
    State.emit, packetDiag_append]
  rfl

/-- Settles O26: the arm is the entry read alone. -/
theorem evtRxIdleChangesNothing : Obligations.EvtRxIdleChangesNothing := by
  rintro s tra snap hen htag htra rfl haddr hrxne hstop
  have hforms := State.forms_of_eq htag htra rfl
  refine attempt_eq_next (by simp only [hen, hforms, haddr, hrxne, hstop, Bool.not_false, Bool.and_self]) ?_
  rw [State.enterHandler, Regs.readSR1_of_no_addr haddr, hstop]

end Sys2Proof.Machine
end

section
/-! What no EV step changes (rule R117), and which steps wake a suspended task (rules R114, R138, R157). -/

namespace Sys2Proof.Machine

/-! ### The registers an event arm may write -/

/-- What the accesses of an event arm leave of the registers (rule R117): CR1 but for ACK, the fault flags, and every
other register but DR; no flag of SR1 is raised. -/
structure Regs.EvFrame (r r' : Regs) : Prop where
  cr1 : r'.cr1 &&& 0xBBFB#16 = r.cr1 &&& 0xBBFB#16
  faults : faultByte r'.sr1 = faultByte r.sr1
  cleared : r'.sr1 &&& r.sr1 = r'.sr1
  others : r'.cr2 = r.cr2 ∧ r'.oar1 = r.oar1 ∧ r'.oar2 = r.oar2 ∧ r'.sr2 = r.sr2 ∧ r'.ccr = r.ccr
    ∧ r'.trise = r.trise ∧ r'.fltr = r.fltr

theorem Regs.EvFrame.refl (r : Regs) : r.EvFrame r :=
  ⟨rfl, rfl, BitVec.and_self, rfl, rfl, rfl, rfl, rfl, rfl, rfl⟩

theorem faultByte_and (v k : Reg) : faultByte (v &&& k) = faultByte v &&& faultByte k := BitVec.extractLsb'_and

section
variable {r r' : Regs} (h : r.EvFrame r')
include h

/-- A mask that keeps the fault flags. -/
theorem Regs.EvFrame.maskSr1 {k : Reg} (hk : faultByte k = 0xFF#8) : r.EvFrame { r' with sr1 := r'.sr1 &&& k } where
  cr1 := h.cr1
  faults := by rw [faultByte_and, hk, h.faults]; exact BitVec.and_allOnes
  cleared := by rw [BitVec.and_assoc, BitVec.and_comm k, ← BitVec.and_assoc, h.cleared]
  others := h.others

theorem Regs.EvFrame.readSR2 : r.EvFrame r'.readSR2.2 := by
  rw [Regs.readSR2_eq]
  split
  · exact { h.maskSr1 (k := 0xFFFD#16) rfl with }
  · exact h

theorem Regs.EvFrame.readDR : r.EvFrame r'.readDR.2 := by
  rw [Regs.readDR_eq]
  exact h.maskSr1 rfl

theorem Regs.EvFrame.writeDR (b : Byte) : r.EvFrame (r'.writeDR b) := by
  rw [Regs.writeDR_eq]
  exact { h.maskSr1 (k := 0xFF7B#16) rfl with }

/-- A write of CR1 that changes no bit but ACK. -/
theorem Regs.EvFrame.writeCR1 {v : Reg} (hv : v &&& 0xBBFB#16 = r'.cr1 &&& 0xBBFB#16) : r.EvFrame (r'.writeCR1 v) := by
  have hcr1 : v &&& 0xBFFB#16 &&& 0xBBFB#16 = r.cr1 &&& 0xBBFB#16 := by
    rw [BitVec.and_assoc, ← h.cr1, ← hv]
    rfl
  rw [Regs.writeCR1_eq]
  split
  · exact { h.maskSr1 (k := 0xFFEF#16) rfl with cr1 := hcr1 }
  · exact { h with cr1 := hcr1 }

theorem Regs.EvFrame.touchCR1 : r.EvFrame r'.touchCR1 := h.writeCR1 rfl

theorem Regs.EvFrame.clearAck : r.EvFrame r'.clearAck := h.writeCR1 (by rw [BitVec.and_assoc]; rfl)

theorem Regs.EvFrame.resync (e : Reg) : r.EvFrame (r'.resync e) := by
  have hstop := Regs.kept_ite (P := r.EvFrame) Regs.EvFrame.touchCR1 (e.getLsbD Sr1.stopf) h
  exact Regs.kept_ite (P := r.EvFrame) Regs.EvFrame.readDR (e.getLsbD Sr1.rxne) hstop

end

/-- Every event arm is the entry read and accesses of the frame. -/
theorem evBody_regs {i : Instr} (hi : i.isEv = true) (s : State) : s.regs.EvFrame (i.body s).regs := by
  have hin : s.regs.EvFrame s.regs.readSR1.2 := { Regs.EvFrame.refl s.regs with }
  cases i with
  | evtAddrRead | evtAddrWrite => exact hin.readSR2
  | evtTxByte =>
    show s.regs.EvFrame s.armTxByte.regs
    rcases s.armTxByte_cases with ⟨_, _, -, h⟩ | h <;> rw [h]
    · exact hin.writeDR _
    · exact hin
  | evtTxResync | evtResync => exact hin.resync _
  | evtRxByte =>
    show s.regs.EvFrame s.armRxByte.regs
    rcases s.armRxByte_cases with ⟨_, -, -, h⟩ | ⟨_, -, -, h⟩ | h <;> rw [h] <;> exact hin.readDR
  | evtRxStop =>
    have hserved : s.regs.EvFrame s.stopServed.regs := hin.touchCR1.clearAck
    show s.regs.EvFrame s.armRxStop.regs
    rcases s.armRxStop_cases with ⟨_, -, h⟩ | h <;> rw [h]
    · rwa [State.signalWake_regs]
    · exact hserved
  | evtRxIdle => exact hin
  | _ => cases hi

/-! ### ACK and DR -/

/-- `EVT_RX_STOP` withholds ACK in every stage, and leaves DR. -/
theorem State.armRxStop_ack_dr (s : State) : s.armRxStop.regs.ack = false ∧ s.armRxStop.regs.dr = s.regs.dr := by
  have hserved : s.stopServed.regs.ack = false ∧ s.stopServed.regs.dr = s.regs.dr :=
    ⟨Regs.ack_clearAck _, by simp [State.stopServed, Regs.clearStop, Regs.touchCR1, Regs.clearAck]⟩
  rcases s.armRxStop_cases with ⟨_, -, h⟩ | h <;> rw [h]
  · rwa [State.signalWake_regs]
  · exact hserved

/-- Of the event arms only `EVT_RX_STOP` writes ACK, and it clears it. -/
theorem evBody_ack {i : Instr} (hi : i.isEv = true) (s : State) :
    (i.body s).regs.ack = s.regs.ack ∨ ((i.body s).regs.ack = false ∧ ∃ tra e, i = .evtRxStop tra e) := by
  cases i with
  | evtRxStop tra e => exact .inr ⟨s.armRxStop_ack_dr.1, tra, e, rfl⟩
  | evtAddrRead | evtAddrWrite => exact .inl (congrArg (BitVec.getLsbD · Cr1.ack) (Regs.readSR2_cr1 _))
  | evtTxByte => exact .inl s.armTxByte_ack_tag.1
  | evtTxResync | evtResync => exact .inl (Regs.ack_resync _ _)
  | evtRxByte => exact .inl s.armRxByte_ack_tag.1
  | evtRxIdle => exact .inl rfl
  | _ => cases hi

/-- A resynchronisation reads DR and does not write it. -/
theorem Regs.resync_dr (r : Regs) (e : Reg) : (r.resync e).dr = r.dr := by
  have hstop := Regs.kept_ite (P := fun r' => r'.dr = r.dr) (f := Regs.touchCR1)
    (fun h => (Regs.writeCR1_dr _ _).trans h) (e.getLsbD Sr1.stopf) rfl
  exact Regs.kept_ite (P := fun r' => r'.dr = r.dr) (f := fun r' => r'.readDR.2) (fun h => h)
    (e.getLsbD Sr1.rxne) hstop

/-- Of the event arms only `EVT_TX_BYTE` writes DR. -/
theorem evBody_dr {i : Instr} (hi : i.isEv = true) (s : State) :
    (i.body s).regs.dr = s.regs.dr ∨ ∃ tra e, i = .evtTxByte tra e := by
  cases i with
  | evtTxByte tra e => exact .inr ⟨tra, e, rfl⟩
  | evtAddrRead | evtAddrWrite => exact .inl (Regs.readSR2_dr _)
  | evtTxResync | evtResync => exact .inl (Regs.resync_dr _ _)
  | evtRxByte =>
    show s.armRxByte.regs.dr = _ ∨ _
    rcases s.armRxByte_cases with ⟨_, -, -, h⟩ | ⟨_, -, -, h⟩ | h <;> rw [h] <;> exact .inl rfl
  | evtRxStop => exact .inl s.armRxStop_ack_dr.2
  | evtRxIdle => exact .inl rfl
  | _ => cases hi

/-! ### The rest of the state -/

/-- Outside the registers an event arm writes the stage, the queue, the slot, the task and the diagnostics alone. -/
theorem evBody_eq {i : Instr} (hi : i.isEv = true) (s : State) : ∃ r st q w tk ds, i.body s = { s with
    regs := r, stage := st, txq := q, wake := w, task := tk, out := { s.out with diag := ds } } := by
  cases i with
  | evtTxByte => obtain ⟨_, _, h⟩ := s.armTxByte_eq; exact ⟨_, _, _, _, _, _, h⟩
  | evtRxByte => obtain ⟨_, _, _, h⟩ := s.armRxByte_eq; exact ⟨_, _, _, _, _, _, h⟩
  | evtRxStop => obtain ⟨_, _, _, _, _, h⟩ := s.armRxStop_eq; exact ⟨_, _, _, _, _, _, h⟩
  | evtAddrRead | evtAddrWrite | evtTxResync | evtRxIdle | evtResync => exact ⟨_, _, _, _, _, _, rfl⟩
  | _ => cases hi

/-- An event arm pops the queue's head or leaves the queue. -/
theorem evBody_txq {i : Instr} (hi : i.isEv = true) (s : State) :
    (i.body s).txq = s.txq ∨ ((i.body s).txq = s.txq.drop 1 ∧ ∃ tag e, i = .evtAddrRead tag e) := by
  by_cases hq : (i.body s).txq = s.txq
  · exact .inl hq
  · rcases body_txq hq with ⟨_, _, rfl⟩ | rfl | ⟨_, rfl, -⟩ | ⟨tag, e, rfl, _, hpop⟩
    · cases hi
    · cases hi
    · cases hi
    · exact .inr ⟨by rw [hpop, List.drop_one, List.tail_cons], tag, e, rfl⟩

/-- An event arm empties the slot or leaves it, and it writes the task only where it empties a full slot. -/
theorem evBody_wake_task {i : Instr} (hi : i.isEv = true) (s : State) :
    ((i.body s).wake = s.wake ∨ (i.body s).wake = .empty)
      ∧ ((i.body s).wake = s.wake → (i.body s).task = s.task) := by
  rcases body_wake_task i s with ⟨hw, ht⟩ | hlife | ⟨tra, e, rfl⟩ | rfl | rfl
  · exact ⟨.inl hw, fun _ => ht⟩
  · rcases i.lifecycle_cases with ⟨_, _, rfl⟩ | rfl | hnot
    · cases hi
    · cases hi
    · simp [hlife] at hnot
  · show (s.armRxStop.wake = _ ∨ s.armRxStop.wake = _) ∧ (s.armRxStop.wake = _ → s.armRxStop.task = _)
    rcases s.armRxStop_wake_task with ⟨hw, ht⟩ | ⟨hw, ht⟩
    · exact ⟨.inr hw, fun hsame => by rw [ht, ← hsame, hw, if_neg nofun]⟩
    · exact ⟨.inl hw, fun _ => ht⟩
  · cases hi
  · cases hi

theorem Instr.isTk_of_isEv {i : Instr} (hi : i.isEv = true) : i.isTk = false := by
  cases i with
  | tkInit | tkEnqueue | tkPoll | tkRegister | tkTeardown => cases hi
  | _ => rfl

/-- Settles O27: an EV step is not taken or runs its arm, and what an arm leaves is said field by field by the `evBody`
lemmas. -/
theorem eventHandlerFrame : Obligations.EventHandlerFrame := by
  intro i s t hi h
  cases exec_effect h with
  | skipped =>
    exact ⟨id, fun hne => absurd rfl hne, rfl, rfl, BitVec.and_self, .inl rfl, .inl rfl, fun _ => rfl,
      fun hne => absurd rfl hne, rfl, rfl, rfl, rfl, rfl, rfl, rfl, rfl, rfl, rfl, rfl, rfl, rfl, rfl, rfl, rfl, rfl,
      rfl, rfl⟩
  | faulted f htk => simp [Instr.isTk_of_isEv hi] at htk
  | ran =>
    obtain ⟨hcr1, hfaults, hcleared, hcr2, hoar1, hoar2, hsr2, hccr, htrise, hfltr⟩ := evBody_regs hi s
    obtain ⟨hwake, htask⟩ := evBody_wake_task hi s
    have hackSet : (i.body s).regs.ack = true → s.regs.ack = true := fun hset => by
      rcases evBody_ack hi s with hack | ⟨hack, -⟩
      · exact hack.symm.trans hset
      · exact absurd (hack.symm.trans hset) nofun
    obtain ⟨_, _, _, _, _, _, heq⟩ := evBody_eq hi s
    refine ⟨hackSet, fun hne => (evBody_ack hi s).elim (absurd · hne) And.right, hcr1, hfaults, hcleared,
      evBody_txq hi s, hwake, htask, (evBody_dr hi s).resolve_left, hcr2, hoar1, hoar2, hsr2, hccr, htrise, hfltr, ?_⟩
    rw [heq]
    exact ⟨rfl, rfl, rfl, rfl, rfl, rfl, rfl, rfl, rfl, rfl, rfl, rfl⟩

/-! ### The suspended task -/

/-- A body that takes a task out of SUSPENDED is the stop that completes a receive, a construction or a teardown: a poll
is not taken by a suspended task. -/
theorem body_wakes_suspended {i : Instr} {s : State} (he : s.stepEnabled i = true) (hl : s.runsIn i)
    (hsusp : s.task = .suspended) (hne : (i.body s).task ≠ .suspended) :
    ((i.body s).task = .polling ∧ s.wake = .registered ∧ (i.body s).wake = .empty
        ∧ ∃ tra e, i = .evtRxStop tra e)
      ∨ i = .tkTeardown ∨ ∃ c a, i = .tkInit c a := by
  rcases body_wake_task i s with ⟨-, ht⟩ | hlife | ⟨tra, e, rfl⟩ | rfl | rfl
  · exact absurd (ht.trans hsusp) hne
  · rcases i.lifecycle_cases with hinit | hdown | hnot
    · exact .inr (.inr hinit)
    · exact .inr (.inl hdown)
    · simp [hlife] at hnot
  · rcases s.armRxStop_wake_task with ⟨hw, ht⟩ | ⟨-, ht⟩
    · by_cases hreg : s.wake = .registered
      · exact .inl ⟨ht.trans (if_pos hreg), hreg, hw, tra, e, rfl⟩
      · exact absurd ((ht.trans (if_neg hreg)).trans hsusp) hne
    · exact absurd (ht.trans hsusp) hne
  · obtain hl | ⟨-, _, h⟩ := hl
    · simp [State.stepEnabled, State.pollEnabled, hl, hsusp] at he
    · cases h
  · exact absurd rfl hne

/-- Settles O49: of what a step can do, only a body writes the task. -/
theorem suspendedTaskIsWokenOnlyByAStop : Obligations.SuspendedTaskIsWokenOnlyByAStop := by
  intro s t h hsusp hne
  rcases step_cases h with ⟨-, rfl⟩ | ⟨-, rfl⟩ | ⟨-, r, rfl⟩ | ⟨-, r, rfl⟩ | ⟨r, i, -, hi, -, hx⟩
  · exact absurd hsusp hne
  · exact absurd hsusp hne
  · exact absurd hsusp hne
  · exact absurd hsusp hne
  · cases exec_effect hx with
    | skipped => exact absurd hsusp hne
    | faulted => exact absurd hsusp hne
    | ran _ he hl => simpa [hi] using body_wakes_suspended he hl hsusp hne

end Sys2Proof.Machine
end

section
/-! The error handler (rules R131 to R140): when an ER row runs, the next state each gives, and what none changes. -/

namespace Sys2Proof.Machine

/-! ### When an ER row runs, and what it runs -/

/-- The word rule R88 forms determines the stage tag, the direction bit and the snapshot it was formed from. -/
theorem State.forms_of_handler_eq {s : State} {src : BitVec 2} {tag : StageTag} {tra : Bool} {e : Reg}
    (h : Fields.handler src tag tra e = Fields.handler src s.stage.tag s.regs.tra s.regs.sr1) :
    s.forms tag tra e = true :=
  State.forms_of_eq (StageTag.bits_injective (congrArg Fields.stage h)).symm
    (BitVec.ofBool_eq_iff_eq.mp (congrArg Fields.b16 h)).symm (congrArg Fields.low h).symm

/-- An ER row whose word the state forms, with the bits its row fixes, runs its body where the handler is enabled. -/
theorem exec_formed_er {i : Instr} {s : State} {n : Nat} (hi : i.isEr = true) (hen : s.erEnabled = true)
    (hf : i.fields = Fields.handler 0b01#2 s.stage.tag s.regs.tra s.regs.sr1) (hw : i.wellFormed n = true) :
    exec i s = .next (i.body s) := by
  cases i with
  | errNackEnd | errRecoverTx | errRecoverRx | errRecoverIdle =>
    have hforms := State.forms_of_handler_eq hf
    exact attempt_eq_next (by simp_all [Instr.wellFormed]) rfl
  | _ => cases hi

/-- The body of an ER row is the end by a NACK, or for every other row a recovery. -/
theorem erBody_cases {i : Instr} (hi : i.isEr = true) (s : State) :
    ((∃ tra e, i = .errNackEnd tra e) ∧ i.body s = s.armNackEnd)
      ∨ ((¬∃ tra e, i = .errNackEnd tra e) ∧ ∃ e, i.body s = s.armRecover e) := by
  cases i with
  | errNackEnd tra e => exact .inl ⟨⟨tra, e, rfl⟩, rfl⟩
  | errRecoverTx | errRecoverRx | errRecoverIdle => exact .inr ⟨nofun, _, rfl⟩
  | _ => cases hi

theorem Instr.isTk_of_isEr {i : Instr} (hi : i.isEr = true) : i.isTk = false := by
  simp_all [Instr.isEr, Instr.isTk]

/-! ### The next states -/

/-- `ERR_NACK_END` writes SR1 with AF alone 0 after the entry read (rules R69, R133). -/
theorem State.armNackEnd_eq (s : State) : s.armNackEnd = { s with
    regs := { s.regs with
      sr1 := s.regs.sr1 &&& 0xFBFF#16
      addrArmed := s.regs.sr1.getLsbD 1
      stopfArmed := s.regs.sr1.getLsbD 4 }
    stage := .waiting } := rfl

/-- A recovery as one record update (rule R134). -/
theorem State.armRecover_eq (s : State) (e : Reg) : s.armRecover e = { s with
    regs := { s.regs with
      cr1 := (s.regs.cr1 ||| 0x0400#16) &&& 0xBFFB#16
      sr1 := if s.regs.sr1.getLsbD 6 then s.regs.sr1 &&& 0x20A9#16 else s.regs.sr1 &&& 0x20AD#16
      addrArmed := false
      stopfArmed := false }
    stage := .waiting
    out := { s.out with diag := s.out.diag ++ [.fault (e.extractLsb' 8 8)] } } :=
  congrArg (fun r => { s with
    regs := r, stage := .waiting, out := { s.out with diag := s.out.diag ++ [DiagRecord.fault (faultByte e)] } })
    (Regs.recover_after_entry s.regs)

/-- Settles O28: the row runs its arm, which is the entry read and the write of SR1. -/
theorem errNackEndReturnsToWaiting : Obligations.ErrNackEndReturnsToWaiting := by
  rintro s tra snap hen htag rfl rfl haf
  have hw : (Instr.errNackEnd s.regs.tra s.regs.sr1).wellFormed 0 = true := haf
  rw [exec_formed_er rfl hen (by rw [htag]; rfl) hw]
  exact congrArg _ s.armNackEnd_eq

/-- Settles O29: the three rows run the same arm. -/
theorem errorRecoveryForcesWaiting : Obligations.ErrorRecoveryForcesWaiting := by
  rintro s tag tra snap hen htag rfl rfl t
  have hrun {i : Instr} (hi : i.isEr = true) (hf : i.fields = Fields.handler 0b01#2 tag s.regs.tra s.regs.sr1)
      (hw : i.wellFormed 0 = true) (hbody : i.body s = s.armRecover s.regs.sr1) : exec i s = .next t := by
    rw [exec_formed_er hi hen (htag ▸ hf) hw, hbody, State.armRecover_eq]
  refine ⟨?_, ?_, fun hidle => hrun rfl rfl ?_ rfl⟩
  · rintro rfl haf
    exact hrun rfl rfl (by rw [Instr.wellFormed, haf]; rfl) rfl
  · rintro rfl
    exact hrun rfl rfl rfl rfl
  · rcases hidle with rfl | rfl <;> rfl

/-! ### What no ER step changes -/

/-- Clearing flags raises none. -/
theorem and_and_same (v k : Reg) : v &&& k &&& v = v &&& k := by
  rw [BitVec.and_comm v k, BitVec.and_assoc, BitVec.and_self]

/-- Re-enabling ACK changes no other defined bit of CR1 (rule R68). -/
theorem setAck_keeps_cr1 (v : Reg) : (v ||| 0x0400#16) &&& 0xBFFB#16 &&& 0xBBFB#16 = v &&& 0xBBFB#16 := by
  simp only [BitVec.and_assoc, BitVec.and_or_distrib_right, BitVec.reduceAnd, BitVec.or_zero]

/-- Everything an ER instruction can change: ACK, which is not cleared, flags of SR1, of which none is raised, the armed
bits, the stage and the diagnostics. -/
theorem exec_er_frame {i : Instr} {s t : State} (hi : i.isEr = true) (h : exec i s = .next t) :
    ∃ cr1 sr1 addrArmed stopfArmed st ds,
      (s.regs.ack = true → cr1.getLsbD Cr1.ack = true)
        ∧ cr1 &&& 0xBBFB#16 = s.regs.cr1 &&& 0xBBFB#16
        ∧ sr1 &&& s.regs.sr1 = sr1
        ∧ t = { s with
            regs := { s.regs with cr1, sr1, addrArmed, stopfArmed }
            stage := st
            out := { s.out with diag := ds } } := by
  cases exec_effect h with
  | skipped => exact ⟨_, _, _, _, _, _, id, rfl, BitVec.and_self, rfl⟩
  | faulted f htk => simp [Instr.isTk_of_isEr hi] at htk
  | ran =>
    rcases erBody_cases hi s with ⟨-, hb⟩ | ⟨-, e, hb⟩
    · exact ⟨_, _, _, _, _, _, id, rfl, and_and_same _ _, hb.trans s.armNackEnd_eq⟩
    · refine ⟨_, _, _, _, _, _, fun _ => by simp, setAck_keeps_cr1 _, ?_, hb.trans (s.armRecover_eq e)⟩
      split <;> exact and_and_same _ _

/-- Settles O30: the fields the frame of an ER instruction leaves out are those of the state before. -/
theorem errorHandlerFrame : Obligations.ErrorHandlerFrame := by
  intro i s t hi h
  obtain ⟨_, _, _, _, _, _, hack, hcr1, hsr1, rfl⟩ := exec_er_frame hi h
  exact ⟨hack, rfl, rfl, rfl, rfl, rfl, rfl, rfl, rfl, rfl, rfl, rfl, hcr1, hsr1, rfl, rfl, rfl, rfl, rfl, rfl, rfl,
    rfl, rfl, rfl, rfl, rfl⟩

/-! ### After an error step -/

/-- Of a status value without reserved bits, SB, ADD10 and BTF, a recovery leaves TXE alone. -/
theorem recovered_sr1_eq_txe {v : Reg} (hreserved : v &&& ~~~Sr1.defined = 0#16) (hnever : v &&& 0x000D#16 = 0#16) :
    (if v.getLsbD 6 then v &&& 0x20A9#16 else v &&& 0x20AD#16) = v &&& 0x0080#16 := by
  have hkept : v &&& 0x20AD#16 = v &&& 0x0080#16 :=
    calc v &&& 0x20AD#16 = v &&& (~~~Sr1.defined ||| 0x000D#16 ||| 0x0080#16) := rfl
      _ = v &&& 0x0080#16 := by
        rw [BitVec.and_or_distrib_left, BitVec.and_or_distrib_left, hreserved, hnever, BitVec.zero_or, BitVec.zero_or]
  split
  · calc v &&& 0x20A9#16 = v &&& 0x20AD#16 &&& 0x20A9#16 := by rw [BitVec.and_assoc]; rfl
      _ = v &&& 0x0080#16 := by rw [hkept, BitVec.and_assoc]; rfl
  · exact hkept

theorem and_txe_cases (v : Reg) : v &&& 0x0080#16 = 0x0000#16 ∨ v &&& 0x0080#16 = 0x0080#16 := by
  have hbit : v &&& 0x0080#16 = if v.getLsbD Sr1.txe then 0x0080#16 else 0x0000#16 := BitVec.and_twoPow v 7
  rw [hbit]
  split
  · exact .inr rfl
  · exact .inl rfl

/-- Settles O31: the instruction runs its body, and of SR1 a recovery leaves at most TXE. -/
theorem afterAnErrorStep : Obligations.AfterAnErrorStep := by
  intro i s t hi hen hres hnever hf hw h
  have ht : t = i.body s := by simpa [exec_formed_er hi hen hf hw] using h.symm
  rcases erBody_cases hi s with ⟨hnack, hb⟩ | ⟨hnot, e, hb⟩ <;> rw [ht, hb]
  · refine ⟨rfl, fun _ => ?_, fun hnot => absurd hnack hnot⟩
    simp [State.armNackEnd_eq, Regs.flag]
  · obtain ⟨-, -, -, hreserved, -⟩ := hres
    obtain ⟨hflags, -⟩ := hnever (State.erEnabled_unmarked_active hen).2
    refine ⟨rfl, fun hnack => absurd hnack hnot, fun _ => ⟨Regs.ack_recover _, ?_⟩⟩
    rw [State.armRecover_eq]
    refine ⟨?_, rfl, rfl⟩
    rw [recovered_sr1_eq_txe hreserved hflags]
    exact and_txe_cases _

end Sys2Proof.Machine
end

section
/-! The task port (rules R151 to R159): the lifecycle gate by lifecycle, the next state of each TK row, the one step that
delivers a packet, and which calls of the task program are taken. -/

namespace Sys2Proof.Machine

/-! ### The gate and the construction by lifecycle -/

section Gate
variable {s : State} (hm : s.marked = false)
include hm

theorem tkGate_unconstructed (hl : s.life = .unconstructed) (body : State → State) :
    s.tkGate body = .next (s.raise .notConstructed) := by
  simp only [State.tkGate, hm, hl, Bool.false_eq_true, ↓reduceIte]

theorem tkGate_released (hl : s.life = .released) (body : State → State) :
    s.tkGate body = .next (s.raise .useAfterRelease) := by
  simp only [State.tkGate, hm, hl, Bool.false_eq_true, ↓reduceIte]

/-- `TK_INIT` in interrupt context faults whatever the lifecycle is. -/
theorem execTkInit_in_isr (a : BitVec 7) : execTkInit true a s = .next (s.raise .panicInitInIsr) := by
  simp only [execTkInit, hm, Bool.false_eq_true, ↓reduceIte]

theorem execTkInit_released (hl : s.life = .released) (a : BitVec 7) :
    execTkInit false a s = .next (s.raise .useAfterRelease) := by
  simp only [execTkInit, hm, hl, Bool.false_eq_true, ↓reduceIte]

theorem execTkInit_active (hl : s.life = .active) (a : BitVec 7) : execTkInit false a s = .next (s.raise .reinit) := by
  simp only [execTkInit, hm, hl, Bool.false_eq_true, ↓reduceIte]

theorem execTkInit_unconstructed (hl : s.life = .unconstructed) (a : BitVec 7) :
    execTkInit false a s = .next (s.construct a) := by
  simp only [execTkInit, hm, hl, Bool.false_eq_true, ↓reduceIte]

end Gate

/-- Every TK row but `TK_INIT` stands behind the lifecycle gate. -/
theorem exec_eq_tkGate {i : Instr} (hi : i = .tkPoll ∨ i = .tkRegister ∨ i = .tkTeardown ∨ ∃ p, i = .tkEnqueue p)
    (s : State) : ∃ body, exec i s = s.tkGate body := by
  rcases hi with rfl | rfl | rfl | ⟨p, rfl⟩ <;> exact ⟨_, rfl⟩

/-- Settles O34: `TK_INIT` is decided by its context and then by the lifecycle, the other rows by the gate. -/
theorem lifecycleFaultsSetOnlyTheMark : Obligations.LifecycleFaultsSetOnlyTheMark := by
  intro s hm
  refine ⟨execTkInit_in_isr hm, fun a hl => execTkInit_released hm hl a, fun a hl => execTkInit_active hm hl a,
    fun i hi => ?_⟩
  obtain ⟨body, hx⟩ := exec_eq_tkGate hi s
  exact ⟨fun hl => hx.trans (tkGate_unconstructed hm hl body), fun hl => hx.trans (tkGate_released hm hl body)⟩

/-! ### The next state of each TK row -/

/-- The registers of a construction as one record update: the configured values have no reserved bit, and of the status
registers only an armed STOPF is written (rules R68, R152). -/
theorem Regs.construct_eq (r : Regs) (freq : BitVec 6) (a : BitVec 7) (n : Nat) :
    r.construct freq a n = { r with
      cr1 := 0x0401#16
      cr2 := 0x0700#16 ||| freq.setWidth 16
      oar1 := 0x4000#16 ||| (a.setWidth 16 <<< 1)
      oar2 := 0x0000#16
      ccr := Config.freeReg n
      trise := Config.freeReg (n + 1)
      fltr := Config.freeReg (n + 2)
      sr1 := if r.stopfArmed then r.sr1 &&& 0xFFEF#16 else r.sr1
      stopfArmed := false } := by
  rw [Regs.construct, Regs.writeCR1_eq, Regs.writeCR2, constructedCR2_defined, Regs.writeOAR1,
    (constructedOAR1_defined a).1]
  rfl

/-- Settles O32: in an unconstructed state `TK_INIT` from task context is the construction. -/
theorem tkInitConstructsTheDriver : Obligations.TkInitConstructsTheDriver := by
  intro s a hm hl
  refine ⟨Config.freeReg s.run.free, Config.freeReg (s.run.free + 1), Config.freeReg (s.run.free + 2),
    s.run.free + 3, (execTkInit_unconstructed hm hl a).trans ?_⟩
  rw [State.construct, Regs.construct_eq]

/-- Settles O35: an active driver enqueues, with room or without. -/
theorem tkEnqueuePushesOrRejects : Obligations.TkEnqueuePushesOrRejects := by
  intro s p hm hl
  have hx : exec (.tkEnqueue p) s = .next (s.enqueue p) := tkGate_active hm hl _
  rcases s.enqueue_cases p with ⟨hroom, h⟩ | ⟨hfull, h⟩ <;> rw [hx, h]
  · exact ⟨fun _ => rfl, fun hfull => absurd hroom (Nat.not_lt.mpr hfull)⟩
  · exact ⟨fun hroom => absurd hroom (Nat.not_lt.mpr hfull), fun _ => rfl⟩

/-- Settles O36: an enabled poll delivers a ready packet, or registers in the one way the parameter names. -/
theorem tkPollDeliversOrRegisters : Obligations.TkPollDeliversOrRegisters := by
  intro s hm hl htask
  have hen : s.pollEnabled = true := by simpa [State.pollEnabled] using htask
  have hx : exec .tkPoll s = .next s.poll := (tkGate_active hm hl _).trans (congrArg _ (if_pos hen))
  rcases s.poll_cases with ⟨p, hst, h⟩ | ⟨hnot, h⟩ <;> rw [hx, h]
  · have htag : s.stage.tag = .receivedDataReady := by rw [hst]; rfl
    refine ⟨fun q hq => ?_, fun hne => absurd htag hne, fun hne => absurd htag hne⟩
    cases hst.symm.trans hq
    rw [Regs.setAck, Regs.writeCR1_eq]
  · refine ⟨fun p hst => absurd (congrArg Stage.tag hst) hnot, fun _ hatomic => ?_, fun _ hatomic => ?_⟩
    · rw [hatomic, if_pos rfl, State.register]
    · rw [hatomic, if_neg Bool.false_ne_true]

/-- Settles O37: an active driver registers where the task is REGISTERING. -/
theorem tkRegisterSuspendsTheTask : Obligations.TkRegisterSuspendsTheTask := by
  intro s hm hl htask
  have hen : s.registerEnabled = true := beq_iff_eq.mpr htask
  exact (tkGate_active hm hl _).trans (congrArg _ (if_pos hen))

/-- Settles O38: the free register values of a teardown leave the armed bits. -/
theorem tkTeardownReleasesTheDriver : Obligations.TkTeardownReleasesTheDriver := fun s hm hl =>
  ⟨s.regs.anyValue s.run.free, s.run.free + 10, rfl, rfl, tkGate_active hm hl State.teardown⟩

/-! ### The delivered packets -/

/-- Only a poll of a ready stage writes the delivered packets (rules R154, R159). -/
theorem body_delivered (i : Instr) (s : State) :
    (i.body s).out.delivered = s.out.delivered
      ∨ (i = .tkPoll ∧ ∃ p, s.stage = .receivedDataReady p
          ∧ (i.body s).out.delivered = s.out.delivered ++ [p] ∧ (i.body s).stage = .waiting) := by
  have of_eq {t : State} (h : i.body s = t) (ht : t.out.delivered = s.out.delivered) :
      (i.body s).out.delivered = s.out.delivered := h ▸ ht
  cases i with
  | tkPoll =>
    rcases s.poll_cases with ⟨p, hst, h⟩ | ⟨-, h⟩
    · exact .inr ⟨rfl, p, hst, congrArg (·.out.delivered) h, congrArg State.stage h⟩
    · exact .inl (of_eq h (by split <;> rfl))
  | tkEnqueue p =>
    obtain ⟨_, _, h⟩ := s.enqueue_eq p
    exact .inl (of_eq h rfl)
  | evtTxByte =>
    obtain ⟨_, _, h⟩ := s.armTxByte_eq
    exact .inl (of_eq h rfl)
  | evtRxByte =>
    obtain ⟨_, _, _, h⟩ := s.armRxByte_eq
    exact .inl (of_eq h rfl)
  | evtRxStop =>
    obtain ⟨_, _, _, _, _, h⟩ := s.armRxStop_eq
    exact .inl (of_eq h rfl)
  | busRead ack => cases ack <;> exact .inl rfl
  | busStop =>
    obtain ⟨_, _, _, h⟩ := s.busStop_eq
    exact .inl (of_eq h rfl)
  | _ => exact .inl rfl

/-- Settles O39: of what a step can do, only a body writes the delivered packets. -/
theorem eachReadyPacketIsDeliveredAtMostOnce : Obligations.EachReadyPacketIsDeliveredAtMostOnce := by
  intro s t h
  rcases step_cases h with ⟨-, rfl⟩ | ⟨-, rfl⟩ | ⟨-, r, rfl⟩ | ⟨-, r, rfl⟩ | ⟨r, i, -, hi, -, hx⟩
  · exact .inl rfl
  · exact .inl rfl
  · exact .inl rfl
  · exact .inl rfl
  · cases exec_effect hx with
    | skipped => exact .inl rfl
    | faulted => exact .inl rfl
    | ran =>
      rcases body_delivered i { s with run := r } with hsame | ⟨rfl, p, hst, hdel, hwait⟩
      · exact .inl hsame
      · exact .inr ⟨p, hst, hdel, hwait, hi⟩

/-! ### The calls of the task program -/

theorem CallOp.ofInstr_instr (o : CallOp) : CallOp.ofInstr o.instr = some o := by cases o <;> rfl

theorem CallOp.instr_injective : Function.Injective CallOp.instr := fun o o' h =>
  Option.some.inj (by rw [← o.ofInstr_instr, h, o'.ofInstr_instr])

/-- The word of a call decodes to the call's instruction, an operand being a packet for its own length. -/
theorem CallOp.decode_instr (o : CallOp) : decode (encode o.instr) o.instr.operand = .ok o.instr := by
  cases o with
  | enqueue p => exact decodeEncodeAgree p.length _ (decide_eq_true rfl)
  | init | receive | teardown => exact decodeEncodeAgree 0 _ rfl

/-- The one call that can be a step of the scheduler is the `receive()` of a POLLING task: its re-poll. -/
theorem State.bySchedulerAlone_call (s : State) (o : CallOp) :
    s.bySchedulerAlone o.instr = true ↔ o = .receive ∧ s.life = .active ∧ s.task = .polling := by
  cases o <;> simp [CallOp.instr, State.bySchedulerAlone]

theorem State.holds_iff (s : State) (c : Call) : s.holds c = true ↔ s.life = .active ∧
    if c.op = .receive then s.task ≠ .idle
    else c.caller = .receiver ∧ (s.task = .registering ∨ s.task = .suspended) := by
  cases hop : c.op <;> simp [State.holds, hop]

section Calls
variable {s : State}

theorem State.grant_scheduler {i : Instr} (hb : s.bySchedulerAlone i = true) : s.grant i = some s.run.prog := by
  simp [State.grant, hb]

/-- The program's next call is granted, and taken from the program, unless it waits. -/
theorem State.grant_next_call {c : Call} {ps : List Call} (hp : s.run.prog = c :: ps)
    (hb : ¬s.bySchedulerAlone c.op.instr = true) :
    s.grant c.op.instr = if s.holds c = true then none else some ps := by
  cases hh : s.holds c <;> simp [State.grant, hb, hp, hh, CallOp.ofInstr_instr]

/-- A call that is not the program's next one is not granted. -/
theorem State.grant_other_call {o : CallOp} (hne : ∀ c ps, s.run.prog = c :: ps → c.op ≠ o)
    (hb : ¬s.bySchedulerAlone o.instr = true) : s.grant o.instr = none := by
  cases hp : s.run.prog with
  | nil => simp [State.grant, hb, hp, CallOp.ofInstr_instr]
  | cons c ps => simp [State.grant, hb, hp, CallOp.ofInstr_instr, CallOp.instr_injective.ne (hne c ps hp)]

/-- The next call waits while the receiver is REGISTERING or SUSPENDED, if it is a `receive()` or the receiver's (rule
R157). -/
theorem State.grant_waiting_call {c : Call} {ps : List Call} (hp : s.run.prog = c :: ps) (hl : s.life = .active)
    (htask : s.task = .registering ∨ s.task = .suspended) (hc : c.op = .receive ∨ c.caller = .receiver) :
    s.grant c.op.instr = none := by
  obtain ⟨hidle, hpolling⟩ : s.task ≠ .idle ∧ s.task ≠ .polling := by rcases htask with h | h <;> simp [h]
  have hb : ¬s.bySchedulerAlone c.op.instr = true := fun hb =>
    have ⟨_, _, htask⟩ := (s.bySchedulerAlone_call c.op).mp hb
    hpolling htask
  rw [State.grant_next_call hp hb, if_pos]
  refine (s.holds_iff c).mpr ⟨hl, ?_⟩
  split
  next => exact hidle
  next hop => exact ⟨hc.resolve_left hop, htask⟩

/-- The next call is taken from the program outside ACTIVE, from IDLE, and where it is no `receive()` and either another
task makes it or the task is POLLING (rule R157). -/
theorem State.grant_free_call {c : Call} {ps : List Call} (hp : s.run.prog = c :: ps)
    (h : s.life ≠ .active ∨ s.task = .idle ∨ (c.op ≠ .receive ∧ (c.caller = .other ∨ s.task = .polling))) :
    s.grant c.op.instr = some ps := by
  have hb : ¬s.bySchedulerAlone c.op.instr = true := by
    rw [State.bySchedulerAlone_call]
    rcases h with hl | htask | ⟨hop, -⟩
    · exact fun ⟨_, hl', _⟩ => hl hl'
    · simp [htask]
    · exact fun ⟨hop', _⟩ => hop hop'
  rw [State.grant_next_call hp hb, if_neg]
  rw [State.holds_iff]
  rcases h with hl | htask | ⟨hop, hother | htask⟩
  · exact fun ⟨hl', _⟩ => hl hl'
  · simp [htask]
  · simp [hop, hother]
  · simp [hop, htask]

variable {i : Instr} {cs : List Choice}

/-- A granted step is fetched, and its call, if it is one, is taken from the program. -/
theorem State.fetch_granted {prog : List Call} (hd : decode (encode i) i.operand = .ok i)
    (hs : s.run.sched = Choice.of i :: cs) (hg : s.grant i = some prog) :
    s.fetch = (some i.item, { s with run := { s.run with sched := cs, prog := prog, draw := none } }) := by
  have hg' : State.grant { s with run := { s.run with sched := cs } } i = some prog := hg
  simp only [State.fetch, hs, Choice.of, State.fetchWord, Instr.item, hd, hg']

/-- A step that is not granted only uses its choice up. -/
theorem State.step_not_granted (hm : s.marked = false) (ha : s.cfg.admitted = true)
    (hd : decode (encode i) i.operand = .ok i) (hs : s.run.sched = Choice.of i :: cs) (hg : s.grant i = none) :
    step s = .next { s with run := { s.run with sched := cs } } := by
  have hg' : State.grant { s with run := { s.run with sched := cs } } i = none := hg
  simp [step, State.takeStep, hm, ha, State.fetch, hs, Choice.of, State.fetchWord, Instr.item, hd, hg']

end Calls

/-- Settles O12: the scheduler's steps are granted as they are, and a call only as the program's next one and where it
does not wait. -/
theorem applicationCallsWaitWhileReceiving : Obligations.ApplicationCallsWaitWhileReceiving := by
  intro s cs hm ha
  refine ⟨fun c ps hs hp => ?_, fun o hs hne hnot => ?_, fun hs hl htask => ?_, fun hs => ?_⟩
  · have hwait (hg : s.grant c.op.instr = none) := State.step_not_granted hm ha c.op.decode_instr hs hg
    exact ⟨fun hl hcaller htask => hwait (State.grant_waiting_call hp hl htask (.inr hcaller)),
      fun hl hop htask => hwait (State.grant_waiting_call hp hl htask (.inl hop)),
      fun h => State.fetch_granted c.op.decode_instr hs (State.grant_free_call hp h)⟩
  · have hb : ¬s.bySchedulerAlone o.instr = true := mt (s.bySchedulerAlone_call o).mp hnot
    exact State.step_not_granted hm ha o.decode_instr hs (State.grant_other_call hne hb)
  · have hb : s.bySchedulerAlone .tkPoll = true := (s.bySchedulerAlone_call .receive).mpr ⟨rfl, hl, htask⟩
    exact State.fetch_granted (CallOp.decode_instr .receive) hs (State.grant_scheduler hb)
  · exact State.fetch_granted (decodeEncodeAgree 0 .tkRegister rfl) hs (State.grant_scheduler rfl)

end Sys2Proof.Machine
end

section
/-! The bus agent (rules R176 to R182): the next state each BUS row gives, and what none of them changes. -/

namespace Sys2Proof.Machine

/-! ### The flags the rows write, as masks -/

/-- An address match on SR1: ADDR is set and TXE takes the direction. -/
theorem setFlag_addr_txe (v : Reg) (rw : Bool) : setFlag (setFlag v Sr1.addr true) Sr1.txe rw =
    if rw then v ||| 0x0082#16 else (v &&& 0xFF7F#16) ||| 0x0002#16 := by
  cases rw with
  | true => exact BitVec.or_assoc _ _ _
  | false => exact BitVec.and_or_distrib_right

/-- An address match on SR2: BUSY is set and TRA takes the direction. -/
theorem setFlag_busy_tra (v : Reg) (rw : Bool) : setFlag (setFlag v Sr2.busy true) Sr2.tra rw =
    if rw then v ||| 0x0006#16 else (v &&& 0xFFFB#16) ||| 0x0002#16 := by
  cases rw with
  | true => exact BitVec.or_assoc _ _ _
  | false => exact BitVec.and_or_distrib_right

/-- Setting a flag to its old value or a draw raises it where the draw is 1, and changes nothing where it is 0. -/
theorem setFlag_or_bit (v : Reg) {i : Nat} (hi : i < 16) (draw : Bool) :
    setFlag v i (v.getLsbD i || draw) = v ||| (if draw then BitVec.twoPow 16 i else 0#16) := by
  cases draw with
  | true =>
    rw [Bool.or_true]
    rfl
  | false =>
    rw [Bool.or_false, if_neg Bool.false_ne_true, BitVec.or_zero]
    refine BitVec.eq_of_getLsbD_eq fun j _ => ?_
    rw [setFlag_getLsbD v i j _ hi]
    split
    next hj => rw [hj]
    next => rfl

theorem State.drawn_of_named {s : State} {b : Bool} (h : s.run.draw = some b) : s.drawn = b := by
  rw [State.drawn, h, Option.getD_some]

/-! ### The rows -/

/-- Settles O40: the row sets two flags of SR1 and two of SR2. -/
theorem busAddrRaisesTheAddressMatch : Obligations.BusAddrRaisesTheAddressMatch := by
  intro s rw hen hack haddr
  refine attempt_eq_next (by simp only [State.busAddrEnabled, hen, hack, haddr, Bool.not_false, Bool.and_self]) ?_
  rw [State.busAddr, setFlag_addr_txe, setFlag_busy_tra]

/-- Settles O41: the row's condition holds, and setting RXNE is its mask. -/
theorem busWriteFillsTheDataRegister : Obligations.BusWriteFillsTheDataRegister := by
  intro s b hen hphase haddr hrxne hack
  have hwrite : s.busWriteEnabled = true := by
    simp only [State.busWriteEnabled, hen, hphase, haddr, hrxne, hack, beq_self_eq_true, Bool.not_false, Bool.and_self]
  exact attempt_eq_next hwrite rfl

/-- Settles O42: after a no-acknowledge the TXE that was 0 becomes the draw. -/
theorem busReadTakesTheDataRegister : Obligations.BusReadTakesTheDataRegister := by
  intro s hen hphase haddr htxe
  have hread : s.busReadEnabled = true := by
    simp only [State.busReadEnabled, hen, hphase, haddr, htxe, beq_self_eq_true, Bool.not_false, Bool.and_self]
  refine ⟨attempt_eq_next hread rfl, s.drawn, s.afterDraw.run, attempt_eq_next hread ?_, rfl, rfl,
    fun b hb => State.drawn_of_named hb⟩
  have htxe' : (setFlag s.regs.sr1 Sr1.af true).getLsbD Sr1.txe = false :=
    (setFlag_getLsbD _ _ _ _ (by decide)).trans htxe
  have hsr1 := setFlag_or_bit (setFlag s.regs.sr1 Sr1.af true) (i := Sr1.txe) (by decide) s.drawn
  rw [htxe', Bool.false_or] at hsr1
  simp only [Bool.false_eq_true, ↓reduceIte, State.busReadNack]
  rw [hsr1]
  rfl

/-- What a stop leaves beside STOPF, as masks. -/
theorem State.busStopWith_eq (stopf : Bool) (s : State) : s.busStopWith stopf = { s with
    regs := { s.regs with
      sr1 := setFlag s.regs.sr1 Sr1.stopf stopf &&& 0xFF7F#16
      sr2 := s.regs.sr2 &&& 0xFFF9#16 }
    busPhase := .idle } := by
  have hsr2 : setFlag (setFlag s.regs.sr2 Sr2.tra false) Sr2.busy false = s.regs.sr2 &&& 0xFFF9#16 :=
    BitVec.and_assoc _ _ _
  rw [State.busStopWith, hsr2]
  rfl

/-- Settles O43: the row is the plain stop, or after a NACK the stop that raises STOPF where the draw is 1. -/
theorem busStopEndsTheTransfer : Obligations.BusStopEndsTheTransfer := by
  intro s hen haddr
  have hrun {t : State} (hphase : s.busPhase ≠ .idle) (ht : s.busStop = t) : exec .busStop s = .next t :=
    attempt_eq_next (by simp [State.busStopEnabled, hen, hphase, haddr]) ht
  constructor
  · intro hphase
    obtain ⟨hidle, hnack⟩ : s.busPhase ≠ .idle ∧ s.busPhase ≠ .txNacked := by
      rcases hphase with h | h <;> simp [h]
    refine hrun hidle ?_
    rw [State.busStop, if_neg hnack, State.busStopWith_eq]
    rfl
  · intro hnack
    refine ⟨s.drawn, s.afterDraw.run, hrun (by simp [hnack]) ?_, rfl, rfl, fun b hb => State.drawn_of_named hb⟩
    have hsr1 := setFlag_or_bit s.regs.sr1 (i := Sr1.stopf) (by decide) s.drawn
    rw [State.busStop, if_pos hnack, State.busStopWith_eq, State.afterDraw_regs, Regs.flag, hsr1]
    rfl

/-- With bit 5 of FLAGS 0 no named flag is cut, and FLAGS stands in `SR1[15:8]`. -/
theorem faultFlags_eq_shift (f : Byte) (hf : f.getLsbD 5 = false) :
    ((f &&& 0xDF#8) ++ 0x00#8 : Reg) = f.setWidth 16 <<< 8 := by
  revert f
  decide

/-- Settles O44: the row sets exactly the flags named. -/
theorem busFaultRaisesTheNamedFlags : Obligations.BusFaultRaisesTheNamedFlags := by
  intro s f hen hf
  refine attempt_eq_next hen ?_
  rw [State.busFault, faultFlags_eq_shift f hf]

/-! ### What no BUS step changes -/

/-- A write of a flag that the mask leaves out. -/
theorem setFlag_and_mask {m : Reg} {i : Nat} (hi : i < 16) (hm : m.getLsbD i = false) (v : Reg) (b : Bool) :
    setFlag v i b &&& m = v &&& m := by
  refine BitVec.eq_of_getLsbD_eq fun j _ => ?_
  rw [BitVec.getLsbD_and, BitVec.getLsbD_and, setFlag_getLsbD v i j b hi]
  split
  next hj => rw [hj, hm, Bool.and_false, Bool.and_false]
  next => rfl

/-- SR1 before and after a bus step (rule R182): SB, ADD10 and BTF are not written, and no flag but TXE is cleared. -/
structure BusFlags (v v' : Reg) : Prop where
  unwritten : v' &&& 0x000D#16 = v &&& 0x000D#16
  uncleared : ∀ j, j ≠ Sr1.txe → v.getLsbD j = true → v'.getLsbD j = true

theorem BusFlags.refl (v : Reg) : BusFlags v v := ⟨rfl, fun _ _ h => h⟩

section
variable {v v' : Reg} (h : BusFlags v v')
include h

theorem BusFlags.raise {k : Reg} (hk : k &&& 0x000D#16 = 0#16) : BusFlags v (v' ||| k) where
  unwritten := by rw [BitVec.and_or_distrib_right, hk, BitVec.or_zero, h.unwritten]
  uncleared j hj hv := by rw [BitVec.getLsbD_or, h.uncleared j hj hv, Bool.true_or]

theorem BusFlags.writeTxe (b : Bool) : BusFlags v (setFlag v' Sr1.txe b) where
  unwritten := (setFlag_and_mask (by decide) rfl v' b).trans h.unwritten
  uncleared j hj hv := by rw [setFlag_getLsbD _ _ _ _ (by decide), if_neg hj, h.uncleared j hj hv]

theorem BusFlags.and_eq : v &&& v' &&& 0xFF7F#16 = v &&& 0xFF7F#16 := by
  refine BitVec.eq_of_getLsbD_eq fun j _ => ?_
  rw [BitVec.getLsbD_and, BitVec.getLsbD_and, BitVec.getLsbD_and]
  by_cases hj : j = Sr1.txe
  · rw [hj]
    exact (Bool.and_false _).trans (Bool.and_false _).symm
  · cases hv : v.getLsbD j with
    | false => rw [Bool.false_and]
    | true => rw [h.uncleared j hj hv, Bool.and_self]

end

/-- A stop sets STOPF to its old value or a bit: the draw after a NACK, and 1 in the other phases (rule R180). -/
theorem State.busStop_eq_with (s : State) : ∃ draw rn,
    s.busStop = State.busStopWith (s.regs.flag Sr1.stopf || draw) { s with run := rn } := by
  rcases s.busStop_cases with ⟨-, h⟩ | ⟨-, h⟩
  · exact ⟨s.drawn, _, h⟩
  · exact ⟨true, s.run, by rw [h, Bool.or_true]⟩

/-- The flags a bus fault names are none of SB, ADD10 and BTF. -/
theorem faultFlags_and_unwritten (flags : Byte) : ((flags &&& 0xDF#8) ++ 0x00#8) &&& 0x000D#16 = 0#16 := by
  revert flags
  decide

/-- Everything a bus body can change (rules R177 to R182). -/
theorem busBody_eq {i : Instr} (hi : i.isBus = true) (s : State) : ∃ dr sr1 sr2 ph rx rn,
    BusFlags s.regs.sr1 sr1
      ∧ sr2 &&& ~~~0x0006#16 = s.regs.sr2 &&& ~~~0x0006#16
      ∧ (dr ≠ s.regs.dr → ∃ b, i = .busWrite b)
      ∧ (rx ≠ s.out.hostRx → ∃ ack, i = .busRead ack)
      ∧ i.body s = { s with
          regs := { s.regs with dr, sr1, sr2 }
          busPhase := ph
          out := { s.out with hostRx := rx }
          run := rn } := by
  have hrefl := BusFlags.refl s.regs.sr1
  have hsr2 (b : Bool) {k : Nat} (hk : k = Sr2.busy ∨ k = Sr2.tra) (v : Reg) :
      setFlag v k b &&& ~~~0x0006#16 = v &&& ~~~0x0006#16 := by
    rcases hk with rfl | rfl <;> exact setFlag_and_mask (by decide) rfl v b
  cases i with
  | busAddr rw =>
    exact ⟨_, _, _, _, _, _, (hrefl.raise rfl).writeTxe rw,
      (hsr2 _ (.inr rfl) _).trans (hsr2 _ (.inl rfl) _), fun hne => absurd rfl hne, fun hne => absurd rfl hne, rfl⟩
  | busWrite b => exact ⟨_, _, _, _, _, _, hrefl.raise rfl, rfl, fun _ => ⟨b, rfl⟩, fun hne => absurd rfl hne, rfl⟩
  | busRead ack =>
    cases ack with
    | true =>
      exact ⟨_, _, _, _, _, _, hrefl.writeTxe true, rfl, fun hne => absurd rfl hne, fun _ => ⟨_, rfl⟩, rfl⟩
    | false =>
      exact ⟨_, _, _, _, _, _, (hrefl.raise rfl).writeTxe _, rfl, fun hne => absurd rfl hne, fun _ => ⟨_, rfl⟩, rfl⟩
  | busStop =>
    obtain ⟨draw, _, heq⟩ := s.busStop_eq_with
    have hstopf : BusFlags s.regs.sr1 (setFlag s.regs.sr1 Sr1.stopf (s.regs.flag Sr1.stopf || draw)) := by
      rw [Regs.flag, setFlag_or_bit _ (by decide)]
      exact hrefl.raise (by cases draw <;> rfl)
    exact ⟨_, _, _, _, _, _, hstopf.writeTxe false, (hsr2 _ (.inl rfl) _).trans (hsr2 _ (.inr rfl) _),
      fun hne => absurd rfl hne, fun hne => absurd rfl hne, heq⟩
  | busFault flags =>
    exact ⟨_, _, _, _, _, _, hrefl.raise (faultFlags_and_unwritten flags), rfl, fun hne => absurd rfl hne,
      fun hne => absurd rfl hne, rfl⟩
  | _ => cases hi

theorem Instr.isTk_of_isBus {i : Instr} (hi : i.isBus = true) : i.isTk = false := by
  simp_all [Instr.isBus, Instr.isTk]

/-- Settles O45: a BUS step is not taken or runs its body, and the fields the body's frame leaves out are those of the
state before. -/
theorem busAgentFrame : Obligations.BusAgentFrame := by
  intro i s t hi h
  cases exec_effect h with
  | skipped =>
    exact ⟨rfl, rfl, (BusFlags.refl _).and_eq, fun hne => absurd rfl hne, fun hne => absurd rfl hne, rfl, rfl, rfl, rfl,
      rfl, rfl, rfl, rfl, rfl, rfl, rfl, rfl, rfl, rfl, rfl, rfl, rfl, rfl, rfl, rfl, rfl, rfl, rfl⟩
  | faulted f htk => simp [Instr.isTk_of_isBus hi] at htk
  | ran =>
    obtain ⟨_, _, _, _, _, _, hsr1, hsr2, hdr, hrx, heq⟩ := busBody_eq hi s
    rw [heq]
    exact ⟨hsr1.unwritten, hsr2, hsr1.and_eq, hdr, hrx, rfl, rfl, rfl, rfl, rfl, rfl, rfl, rfl, rfl, rfl, rfl, rfl, rfl,
      rfl, rfl, rfl, rfl, rfl, rfl, rfl, rfl, rfl, rfl⟩

end Sys2Proof.Machine
end

section
/-! The transfer flags (rules R182, R254): SB, ADD10, BTF and the unused SR2 bits stay 0, and the address match, the bus
phase and TXE agree with the stage. -/

namespace Sys2Proof.Machine

/-! ### What the handlers and the task port do to the status registers -/

/-- The status registers of `r'` are those of `r`, but for flags of SR1 that were cleared. -/
structure Regs.OnlyClears (r r' : Regs) : Prop where
  sr1 : ∃ k, r'.sr1 = r.sr1 &&& k
  sr2 : r'.sr2 = r.sr2

namespace Regs.OnlyClears

theorem refl (r : Regs) : r.OnlyClears r := ⟨⟨_, BitVec.and_allOnes.symm⟩, rfl⟩

variable {r r' : Regs} (h : r.OnlyClears r')
include h

theorem masked {k : Reg} {r'' : Regs} (hsr1 : r''.sr1 = r'.sr1 &&& k) (hsr2 : r''.sr2 = r'.sr2) :
    r.OnlyClears r'' := by
  obtain ⟨⟨m, hm⟩, hsame⟩ := h
  exact ⟨⟨m &&& k, by rw [hsr1, hm, BitVec.and_assoc]⟩, hsr2.trans hsame⟩

theorem writeCR1 (v : Reg) : r.OnlyClears (r'.writeCR1 v) := by
  rw [Regs.writeCR1_eq]
  split
  · exact h.masked rfl rfl
  · exact ⟨h.sr1, h.sr2⟩

theorem flag {j : Nat} (hj : r'.flag j = true) : r.flag j = true := by
  obtain ⟨k, hk⟩ := h.sr1
  rw [Regs.flag, hk] at hj
  exact getLsbD_of_and hj

theorem flag_false {j : Nat} (hj : r.flag j = false) : r'.flag j = false :=
  Bool.eq_false_iff.mpr fun hset => Bool.eq_false_iff.mp hj (h.flag hset)

theorem tra : r'.tra = r.tra := congrArg (BitVec.getLsbD · Sr2.tra) h.sr2

end Regs.OnlyClears

/-- The access primitives clear flags of SR1 and leave SR2. -/
theorem Regs.onlyClears_kept (r : Regs) : Regs.KeptByPrimitives r.OnlyClears where
  readSR1 h := ⟨h.sr1, h.sr2⟩
  readSR2 h := by
    rw [Regs.readSR2_eq]
    split
    · exact h.masked rfl rfl
    · exact h
  readDR h := h.masked (congrArg Regs.sr1 (congrArg Prod.snd (Regs.readDR_eq _))) rfl
  writeDR b h := h.masked (Regs.writeDR_sr1 _ b) rfl
  writeSR1 v h := h.masked (Regs.writeSR1_sr1 _ v) rfl
  touchCR1 h := h.writeCR1 _
  setAck h := h.writeCR1 _
  clearAck h := h.writeCR1 _

/-- A body of a handler or of the task port raises no flag and writes neither SR2 nor the bus phase, teardown aside. -/
theorem body_onlyClears {i : Instr} (hbus : i.isBus = false) (hne : i ≠ .tkTeardown) (s : State) :
    s.regs.OnlyClears (i.body s).regs := by
  rcases i.lifecycle_cases with ⟨_, a, rfl⟩ | rfl | hi
  · show s.regs.OnlyClears (s.regs.construct _ a _)
    rw [Regs.construct_eq]
    split
    · exact (Regs.OnlyClears.refl _).masked rfl rfl
    · exact ⟨(Regs.OnlyClears.refl _).sr1, rfl⟩
  · exact absurd rfl hne
  · exact s.regs.onlyClears_kept.body hi (fun hset => absurd hset (Bool.eq_false_iff.mp hbus)) (.refl _)

theorem body_busPhase {i : Instr} (hbus : i.isBus = false) (s : State) : (i.body s).busPhase = s.busPhase := by
  cases i with
  | evtTxByte => obtain ⟨_, _, h⟩ := s.armTxByte_eq; exact (congrArg State.busPhase h :)
  | evtRxByte => obtain ⟨_, _, _, h⟩ := s.armRxByte_eq; exact (congrArg State.busPhase h :)
  | evtRxStop => obtain ⟨_, _, _, _, _, h⟩ := s.armRxStop_eq; exact (congrArg State.busPhase h :)
  | tkEnqueue p => obtain ⟨_, _, h⟩ := s.enqueue_eq p; exact (congrArg State.busPhase h :)
  | tkPoll => obtain ⟨_, _, _, _, _, h⟩ := s.poll_eq; exact (congrArg State.busPhase h :)
  | busAddr | busWrite | busRead | busStop | busFault => cases hbus
  | _ => rfl

/-! ### The flags that are never set -/

/-- SB, ADD10, BTF and the SR2 bits but BUSY and TRA are 0: the body of `State.NeverSetFlags`. -/
abbrev Regs.NeverSet (r : Regs) : Prop := r.sr1 &&& 0x000D#16 = 0#16 ∧ r.sr2 &&& ~~~0x0006#16 = 0#16

theorem body_neverSet {i : Instr} {s : State} (hne : i ≠ .tkTeardown) (h : s.regs.NeverSet) :
    (i.body s).regs.NeverSet := by
  obtain ⟨hsr1, hsr2⟩ := h
  cases hbus : i.isBus with
  | true =>
    obtain ⟨_, _, _, _, _, _, hflags, hkept, -, -, heq⟩ := busBody_eq hbus s
    rw [heq]
    exact ⟨hflags.unwritten.trans hsr1, hkept.trans hsr2⟩
  | false =>
    obtain ⟨⟨k, hk⟩, hsame⟩ := body_onlyClears hbus hne s
    rw [Regs.NeverSet, hk, hsame]
    exact ⟨and_reserved (m := 0xFFF2#16) hsr1 k, hsr2⟩

/-! ### The address match, the phase and TXE -/

/-- A pending address match agrees with the phase, and a receiving stage with none pending sees no TXE: the body of
`State.TransferAgrees`. -/
abbrev TransferMatches (r : Regs) (st : Stage) (ph : BusPhase) : Prop :=
  (r.flag Sr1.addr = true →
      (r.tra = true → ph = .tx) ∧ (r.tra = false → ph = .rx ∧ r.flag Sr1.txe = false))
    ∧ (st.tag = .receiving → r.flag Sr1.addr = false → r.flag Sr1.txe = false ∧ (ph = .rx ∨ ph = .idle))

/-- A handler step that rule R88 forms in the state carries the state's direction bit. -/
theorem tra_of_formsInstr {s : State} {src src' : BitVec 2} {tag : StageTag} {tra : Bool} {e : Reg} {i : Instr}
    (hi : i.fields = Fields.handler src' tag tra e) (h : s.formsInstr src i = true) : s.regs.tra = tra := by
  have hf : Fields.handler src' tag tra e = Fields.handler src s.stage.tag s.regs.tra s.regs.sr1 := by
    simpa [State.formsInstr, hi] using h
  exact (BitVec.ofBool_eq_iff_eq.mp (congrArg Fields.b16 hf)).symm

/-- Outside the bus agent, `Receiving` with no match pending is entered only by serving the match of a host write (rules
R23, R105); every other body that leaves it so found it so. -/
theorem body_receiving {i : Instr} {s : State} (hbus : i.isBus = false) (he : s.stepEnabled i = true)
    (hw : i.wellFormed s.cfg.packetLen = true) (hst : (i.body s).stage.tag = .receiving)
    (haddr : (i.body s).regs.flag Sr1.addr = false) :
    (s.stage.tag = .receiving ∧ s.regs.flag Sr1.addr = false)
      ∨ (s.regs.flag Sr1.addr = true ∧ s.regs.tra = false) := by
  have addr_eq {tag : StageTag} {tra : Bool} {e : Reg} (hi : i.fields = Fields.handler 0b00#2 tag tra e)
      (h : s.formsInstr 0b00#2 i = true) : s.regs.flag Sr1.addr = e.getLsbD 1 := by
    rw [Regs.flag, (forms_of_formsInstr hi h).2]
  cases i with
  | evtAddrRead | errNackEnd | errRecoverTx | errRecoverRx | errRecoverIdle | tkInit | tkTeardown => cases hst
  | evtAddrWrite tag e =>
    exact .inr ⟨(addr_eq rfl (Bool.and_elim_right he)).trans hw, tra_of_formsInstr rfl (Bool.and_elim_right he)⟩
  | evtTxByte tra e =>
    have haddr := addr_eq rfl (Bool.and_elim_right he)
    exact .inl ⟨s.armTxByte_ack_tag.2.symm.trans hst, by simp_all [Instr.wellFormed]⟩
  | evtRxByte tra e =>
    have haddr := addr_eq rfl (Bool.and_elim_right he)
    exact .inl ⟨s.armRxByte_ack_tag.2.symm.trans hst, by simp_all [Instr.wellFormed]⟩
  | evtRxStop tra e =>
    obtain ⟨htag, -⟩ := forms_of_formsInstr rfl (Bool.and_elim_right he)
    exact absurd ((State.armRxStop_of_receiving htag).2.symm.trans hst) nofun
  | evtTxResync tra e | evtRxIdle tra e | evtResync tag tra e =>
    have haddr := addr_eq rfl (Bool.and_elim_right he)
    exact .inl ⟨hst, by simp_all [Instr.wellFormed]⟩
  | tkEnqueue p =>
    obtain ⟨_, _, h⟩ := s.enqueue_eq p
    exact .inl ⟨(congrArg (·.stage.tag) h).symm.trans hst, (congrArg (·.regs.flag Sr1.addr) h).symm.trans haddr⟩
  | tkPoll =>
    rcases s.poll_cases with ⟨_, -, h⟩ | ⟨-, h⟩
    · exact absurd ((congrArg (·.stage.tag) h).symm.trans hst) nofun
    · obtain ⟨hstage, hregs⟩ : s.poll.stage = s.stage ∧ s.poll.regs = s.regs := by
        rw [h]
        split <;> exact ⟨rfl, rfl⟩
      exact .inl ⟨(congrArg Stage.tag hstage).symm.trans hst, (congrArg (Regs.flag · Sr1.addr) hregs).symm.trans haddr⟩
  | tkRegister => exact .inl ⟨hst, haddr⟩
  | busAddr | busWrite | busRead | busStop | busFault => cases hbus

/-- A handler or task-port body clears flags and changes no direction and no phase, so it keeps the agreement. -/
theorem body_transferMatches {i : Instr} {s : State} (hbus : i.isBus = false) (hne : i ≠ .tkTeardown)
    (he : s.stepEnabled i = true) (hw : i.wellFormed s.cfg.packetLen = true)
    (h : TransferMatches s.regs s.stage s.busPhase) :
    TransferMatches (i.body s).regs (i.body s).stage (i.body s).busPhase := by
  obtain ⟨hpending, hreceiving⟩ := h
  have hclear := body_onlyClears hbus hne s
  rw [TransferMatches, body_busPhase hbus, hclear.tra]
  refine ⟨fun haddr => ?_, fun hst haddr => ?_⟩
  · obtain ⟨hread, hwrite⟩ := hpending (hclear.flag haddr)
    exact ⟨hread, fun htra => ⟨(hwrite htra).1, hclear.flag_false (hwrite htra).2⟩⟩
  · rcases body_receiving hbus he hw hst haddr with ⟨hst', haddr'⟩ | ⟨haddr', htra⟩
    · obtain ⟨htxe, hphase⟩ := hreceiving hst' haddr'
      exact ⟨hclear.flag_false htxe, hphase⟩
    · obtain ⟨hphase, htxe⟩ := (hpending haddr').2 htra
      exact ⟨hclear.flag_false htxe, .inl hphase⟩

theorem TransferMatches.of_same {r r' : Regs} {st : Stage} {ph : BusPhase} (h : TransferMatches r st ph)
    (haddr : r'.flag Sr1.addr = r.flag Sr1.addr) (htxe : r'.flag Sr1.txe = r.flag Sr1.txe) (hsr2 : r'.sr2 = r.sr2) :
    TransferMatches r' st ph := by
  have htra : r'.tra = r.tra := congrArg (BitVec.getLsbD · Sr2.tra) hsr2
  rwa [TransferMatches, haddr, htxe, htra]

/-- With no match pending the agreement asks nothing but of a receiving stage. -/
theorem TransferMatches.of_no_addr {r : Regs} {st : Stage} {ph : BusPhase} (haddr : r.flag Sr1.addr = false)
    (h : st.tag = .receiving → r.flag Sr1.txe = false ∧ (ph = .rx ∨ ph = .idle)) : TransferMatches r st ph :=
  ⟨fun hset => absurd hset (Bool.eq_false_iff.mp haddr), fun hst _ => h hst⟩

/-- An address match latches the direction in TRA, in TXE and in the phase alike (rule R177). -/
theorem State.busAddr_transferMatches (rw : Bool) (s : State) :
    TransferMatches (s.busAddr rw).regs s.stage (s.busAddr rw).busPhase := by
  have haddr : (s.busAddr rw).regs.flag Sr1.addr = true :=
    (setFlag_getLsbD _ _ 1 _ (by decide)).trans (setFlag_getLsbD _ _ 1 _ (by decide))
  have htra : (s.busAddr rw).regs.tra = rw := setFlag_getLsbD _ _ 2 _ (by decide)
  have htxe : (s.busAddr rw).regs.flag Sr1.txe = rw := setFlag_getLsbD _ _ 7 _ (by decide)
  rw [TransferMatches, haddr, htra, htxe]
  cases rw with
  | true => exact ⟨fun _ => ⟨fun _ => rfl, nofun⟩, nofun⟩
  | false => exact ⟨fun _ => ⟨nofun, fun _ => ⟨rfl, rfl⟩⟩, nofun⟩

/-- A bus fault leaves TXE. -/
theorem State.busFault_txe (flags : Byte) (s : State) : (s.busFault flags).regs.flag Sr1.txe = s.regs.flag Sr1.txe := by
  have hflags : ((flags &&& 0xDF#8) ++ 0x00#8 : Reg).getLsbD 7 = false := by
    rw [BitVec.getLsbD_append]
    rfl
  show (s.regs.sr1 ||| _).getLsbD 7 = s.regs.sr1.getLsbD 7
  rw [BitVec.getLsbD_or, hflags, Bool.or_false]

/-- A stop leaves TXE 0 and the phase IDLE (rule R180). -/
theorem State.busStop_txe_phase (s : State) : s.busStop.regs.flag Sr1.txe = false ∧ s.busStop.busPhase = .idle := by
  obtain ⟨_, _, h⟩ := s.busStop_eq_with
  rw [h]
  exact ⟨setFlag_getLsbD _ _ 7 _ (by decide), rfl⟩

/-- The body of a bus row whose step is enabled keeps the agreement: a byte is read only in phase TX with no match
pending, and a stop leaves TXE 0 and the phase IDLE (rules R179, R180). -/
theorem busBody_transferMatches {i : Instr} {s : State} (hbus : i.isBus = true) (he : s.stepEnabled i = true)
    (h : TransferMatches s.regs s.stage s.busPhase) :
    TransferMatches (i.body s).regs (i.body s).stage (i.body s).busPhase := by
  have haddr (hne : ∀ rw, i ≠ .busAddr rw) := busBody_addr hbus hne s
  cases i with
  | busAddr rw => exact s.busAddr_transferMatches rw
  | busWrite b => exact h.of_same (haddr nofun) (setFlag_getLsbD _ _ 7 _ (by decide)) rfl
  | busRead ack =>
    obtain ⟨hphase, hserved⟩ : s.busPhase = .tx ∧ s.regs.flag Sr1.addr = false := by
      simp_all [State.stepEnabled, State.busReadEnabled]
    have hnot : s.stage.tag ≠ .receiving := fun hst => by simpa [hphase] using (h.2 hst hserved).2
    have hstage : ((Instr.busRead ack).body s).stage = s.stage := by cases ack <;> rfl
    exact .of_no_addr ((haddr nofun).trans hserved) fun hst => absurd (hstage ▸ hst) hnot
  | busStop =>
    have hserved : s.regs.flag Sr1.addr = false := by simp_all [State.stepEnabled, State.busStopEnabled]
    obtain ⟨htxe, hphase⟩ := s.busStop_txe_phase
    exact .of_no_addr ((haddr nofun).trans hserved) fun _ => ⟨htxe, .inr hphase⟩
  | busFault flags => exact h.of_same (haddr nofun) (s.busFault_txe flags) rfl
  | _ => cases hbus

/-! ### The step -/

/-- The registers and the phase of power-on agree with every stage, and every flag of power-on is 0. -/
theorem powerOn_matches (st : Stage) : Regs.powerOn.NeverSet ∧ TransferMatches Regs.powerOn st .idle :=
  ⟨⟨rfl, rfl⟩, .of_no_addr rfl fun _ => ⟨rfl, .inr rfl⟩⟩

/-- Where a body can run, the flags are consistent: in a live driver by the invariants, and before the construction
because nothing has moved since power-on (rule R241). -/
theorem State.runsIn_matches {s : State} {i : Instr} (hl : s.runsIn i) (hnever : s.NeverSetFlags)
    (hagree : s.TransferAgrees) (huntouched : s.UntouchedBeforeInit) :
    s.regs.NeverSet ∧ TransferMatches s.regs s.stage s.busPhase := by
  rcases hl with hactive | ⟨hbefore, -⟩
  · exact ⟨hnever hactive, hagree hactive⟩
  · obtain ⟨hregs, hphase⟩ := huntouched hbefore
    rw [hregs, hphase]
    exact powerOn_matches s.stage

/-- After a body has run the driver is no longer unconstructed. -/
theorem body_constructed {i : Instr} {s : State} (hl : s.runsIn i) : (i.body s).life ≠ .unconstructed := by
  rcases i.lifecycle_cases with ⟨_, _, rfl⟩ | rfl | hi
  · exact nofun
  · exact nofun
  · rcases hl with hactive | ⟨-, _, rfl⟩
    · simp [body_life hi, hactive]
    · cases hi

/-- The body of an instruction that can run keeps the flags consistent; a teardown leaves no live driver. -/
theorem body_transferFlags {i : Instr} {s : State} (he : s.stepEnabled i = true) (hl : s.runsIn i)
    (hw : i.wellFormed s.cfg.packetLen = true) (hnever : s.NeverSetFlags) (hagree : s.TransferAgrees)
    (huntouched : s.UntouchedBeforeInit) : (i.body s).NeverSetFlags ∧ (i.body s).TransferAgrees := by
  obtain ⟨hset, hmatches⟩ := State.runsIn_matches hl hnever hagree huntouched
  by_cases hdown : i = .tkTeardown
  · subst hdown
    exact ⟨nofun, nofun⟩
  · refine ⟨fun _ => body_neverSet hdown hset, fun _ => ?_⟩
    cases hbus : i.isBus with
    | true => exact busBody_transferMatches hbus he hmatches
    | false => exact body_transferMatches hbus hdown he hw hmatches

/-- Settles O57: the flags and power-on are no part of the run's inputs or the marks, and every body that can run keeps
the flags consistent. -/
theorem transferFlagsStayConsistent : Obligations.TransferFlagsStayConsistent := by
  intro s t hnever hagree huntouched h
  have hkept := step_keeps (P := fun u => (u.NeverSetFlags ∧ u.TransferAgrees) ∧ u.UntouchedBeforeInit) h
    ⟨⟨hnever, hagree⟩, huntouched⟩ (fun _ _ hu => hu) (fun _ _ hu => hu) (fun _ _ hu => hu)
    fun u i _ he hl hw ⟨⟨hnever, hagree⟩, huntouched⟩ =>
      ⟨body_transferFlags he hl hw hnever hagree huntouched, fun hbefore => absurd hbefore (body_constructed hl)⟩
  exact hkept.1

end Sys2Proof.Machine
end

section
/-! A marked state is quiescent: no step and no instruction moves it (rules R205, R206). -/

namespace Sys2Proof.Machine

theorem exec_marked {s : State} (hm : s.marked = true) (i : Instr) : exec i s = .next s := by
  obtain ⟨t, hx⟩ := exec_total i s
  cases exec_effect hx with
  | skipped => exact hx
  | faulted _ _ hun => simp [hm] at hun
  | ran hun => simp [hm] at hun

theorem State.marked_iff (s : State) : s.marked = true ↔ s.fault ≠ none ∨ s.refused ≠ none := by
  simp [State.marked, Option.isSome_iff_ne_none]

theorem step_marked {s : State} (hm : s.marked = true) : step s = .next s := if_pos hm

/-- Settles O10: the step looks at the marks first, and the only effect of an instruction in a marked state is to be
skipped. -/
theorem markedStateTakesNoStep : Obligations.MarkedStateTakesNoStep := fun s h =>
  have hm := s.marked_iff.mpr h
  ⟨step_marked hm, exec_marked hm⟩

end Sys2Proof.Machine
end

section
/-! The interrupt lines as formulas over the bits of the registers (rules R209, R210). -/

namespace Sys2Proof.Machine

theorem State.evLine_iff (s : State) : s.evLine = true ↔
    s.clkEn = true ∧ s.regs.cr2.getLsbD Cr2.itevten = true
      ∧ (s.regs.flag Sr1.sb = true ∨ s.regs.flag Sr1.addr = true ∨ s.regs.flag Sr1.add10 = true
        ∨ s.regs.flag Sr1.stopf = true ∨ s.regs.flag Sr1.btf = true
        ∨ (s.regs.cr2.getLsbD Cr2.itbufen = true ∧ (s.regs.flag Sr1.txe = true ∨ s.regs.flag Sr1.rxne = true))) := by
  simp only [State.evLine, Regs.evPending, Bool.and_eq_true, Bool.or_eq_true, or_assoc]

/-- Some bit of the fault byte is set exactly where some bit of SR1[15:8] is: bit `k` of the byte is bit `8 + k`. -/
theorem faultByte_ne_zero_iff (v : Reg) : faultByte v ≠ 0#8 ↔ ∃ i, 8 ≤ i ∧ i < 16 ∧ v.getLsbD i = true := by
  have hbyte : faultByte v ≠ 0#8 ↔ ∃ k < 8, v.getLsbD (8 + k) = true := by
    simp [faultByte, BitVec.eq_of_getLsbD_eq_iff]
  rw [hbyte]
  constructor
  · rintro ⟨k, hk, hbit⟩
    exact ⟨8 + k, by omega, by omega, hbit⟩
  · rintro ⟨i, hlow, hhigh, hbit⟩
    exact ⟨i - 8, by omega, by rwa [Nat.add_sub_cancel' hlow]⟩

theorem State.erLine_iff (s : State) : s.erLine = true ↔
    s.clkEn = true ∧ s.regs.cr2.getLsbD Cr2.iterren = true
      ∧ ∃ i, 8 ≤ i ∧ i < 16 ∧ s.regs.sr1.getLsbD i = true := by
  simp only [State.erLine, Regs.erPending, Bool.and_eq_true, bne_iff_ne, faultByte_ne_zero_iff]

/-- Settles O14: the formula of each line, whose named bits stand at the bit numbers of rules R209 and R210. -/
theorem interruptLinesFollowTheirFormulas : Obligations.InterruptLinesFollowTheirFormulas := fun s =>
  ⟨s.evLine_iff, s.erLine_iff⟩

end Sys2Proof.Machine
end

section
/-! Before the construction (rules R241, R242): nothing moves, and `TK_INIT` gives the clean active state. -/

namespace Sys2Proof.Machine

/-- Settles O33: the construction of rule R152, started from the power-on values. -/
theorem initFromPowerOnIsCleanActive : Obligations.InitFromPowerOnIsCleanActive := fun c r a =>
  tkInitConstructsTheDriver { State.reset with cfg := c, run := r } a rfl rfl

/-- Settles O56: only a body writes a register or the phase, and after one has run the driver is constructed. -/
theorem nothingMovesBeforeConstruction : Obligations.NothingMovesBeforeConstruction := by
  intro s t hs h
  exact step_keeps h hs (fun _ _ hu => hu) (fun _ _ hu => hu) (fun _ _ hu => hu)
    fun _ _ _ _ hl _ _ hbefore => absurd hbefore (body_constructed hl)

end Sys2Proof.Machine
end

section
/-! `EVT_RX_IDLE` is unreachable under the bus agent (rule R254). -/

namespace Sys2Proof.Machine

/-- A bit of a mask that selects nothing of a register is 0 in the register. -/
theorem getLsbD_of_and_eq_zero {v m : Reg} (h : v &&& m = 0#16) {j : Nat} (hm : m.getLsbD j = true) :
    v.getLsbD j = false := by
  have hbit := congrArg (BitVec.getLsbD · j) h
  simpa [hm] using hbit

/-- Settles O58: of the seven flags that raise the EV line the bus agent never sets three, the statement excludes three,
and a receiving stage with no match pending sees no TXE. -/
theorem evtRxIdleIsUnreachable : Obligations.EvtRxIdleIsUnreachable := by
  intro s hnever hagree hst haddr hrxne hstopf
  refine Bool.eq_false_iff.mpr fun hen => ?_
  obtain ⟨hl, -, -, -, -, hline, -⟩ := s.evEnabled_iff.mp hen
  obtain ⟨-, -, hflags⟩ := s.evLine_iff.mp hline
  obtain ⟨hsr1, -⟩ := hnever hl
  have hsb : s.regs.flag Sr1.sb = false := getLsbD_of_and_eq_zero hsr1 rfl
  have hadd10 : s.regs.flag Sr1.add10 = false := getLsbD_of_and_eq_zero hsr1 rfl
  have hbtf : s.regs.flag Sr1.btf = false := getLsbD_of_and_eq_zero hsr1 rfl
  obtain ⟨htxe, -⟩ := (hagree hl).2 hst haddr
  simp [hsb, hadd10, hbtf, haddr, hrxne, hstopf, htxe] at hflags

end Sys2Proof.Machine
end

section
/-! The deadlock of the lost wake-up (rule R256): which steps it leaves enabled, and that each of them keeps it. -/

namespace Sys2Proof.Machine

/-- The deadlock of rule R256 over the packet `p`, as `Obligations.LostWakeupIsADeadlock` spells it: the packet waits with
ACK withheld, its waiter is registered and suspended, and nothing is pending for a handler or for a host's read. -/
abbrev State.Deadlocked (p : Packet) (s : State) : Prop :=
  s.life = .active ∧ s.stage = .receivedDataReady p ∧ s.regs.ack = false ∧ s.wake = .registered
    ∧ s.task = .suspended ∧ s.regs.flag Sr1.addr = false ∧ faultByte s.regs.sr1 = 0#8 ∧ s.busPhase ≠ .tx

/-- Without a fault flag the ER handler is not enabled (rules R131, R210). -/
theorem State.erEnabled_of_no_fault {s : State} (h : faultByte s.regs.sr1 = 0#8) : s.erEnabled = false := by
  simp [State.erEnabled, State.erLine, Regs.erPending, h]

/-- The flags below bit 8 are no fault flags (rule R202). -/
theorem faultByte_setFlag (v : Reg) {i : Nat} (hi : i < 8) (b : Bool) : faultByte (setFlag v i b) = faultByte v := by
  refine BitVec.eq_of_getLsbD_eq fun j hj => ?_
  rw [faultByte, faultByte, BitVec.getLsbD_extractLsb', BitVec.getLsbD_extractLsb',
    setFlag_getLsbD v i (8 + j) b (by omega), if_neg (by omega)]

/-- The steps that a deadlock leaves enabled: an EV step needs a match or another stage unless it resynchronises, an ER
step a fault flag, a poll or a registration a task that is not suspended, and the host ACK or a read in progress. -/
theorem State.Deadlocked.stepEnabled_cases {p : Packet} {s : State} (h : s.Deadlocked p) {i : Instr}
    (he : s.stepEnabled i = true) (hw : i.wellFormed s.cfg.packetLen = true) :
    (∃ tag tra e, i = .evtResync tag tra e) ∨ (∃ q, i = .tkEnqueue q) ∨ i = .busStop
      ∨ (∃ flags, i = .busFault flags) ∨ i.isLifecycle = true := by
  obtain ⟨hl, hst, hack, -, htask, haddr, hfault, hphase⟩ := h
  cases i with
  | evtResync tag tra e => exact .inl ⟨tag, tra, e, rfl⟩
  | tkEnqueue q => exact .inr (.inl ⟨q, rfl⟩)
  | busStop => exact .inr (.inr (.inl rfl))
  | busFault flags => exact .inr (.inr (.inr (.inl ⟨flags, rfl⟩)))
  | tkInit | tkTeardown => exact .inr (.inr (.inr (.inr rfl)))
  | evtAddrRead | evtAddrWrite =>
    obtain ⟨-, rfl⟩ := forms_of_formsInstr rfl (Bool.and_elim_right he)
    exact absurd (hw.symm.trans haddr) nofun
  | evtTxByte | evtTxResync | evtRxByte | evtRxStop | evtRxIdle =>
    obtain ⟨htag, -⟩ := forms_of_formsInstr rfl (Bool.and_elim_right he)
    exact absurd ((congrArg Stage.tag hst).symm.trans htag) nofun
  | errNackEnd | errRecoverTx | errRecoverRx | errRecoverIdle =>
    have her : s.erEnabled = true := Bool.and_elim_left he
    exact absurd (her.symm.trans (State.erEnabled_of_no_fault hfault)) nofun
  | tkPoll => simp [State.stepEnabled, State.pollEnabled, hl, htask] at he
  | tkRegister => simp [State.stepEnabled, State.registerEnabled, hl, htask] at he
  | busAddr => simp [State.stepEnabled, State.busAddrEnabled, hack] at he
  | busWrite => simp [State.stepEnabled, State.busWriteEnabled, hack] at he
  | busRead => simp [State.stepEnabled, State.busReadEnabled, hphase] at he

/-- A resynchronisation keeps the deadlock: it writes CR1 as it is and raises no flag (rule R112). -/
theorem State.Deadlocked.armResync {p : Packet} {s : State} (h : s.Deadlocked p) (e : Reg) :
    (s.armResync e).Deadlocked p := by
  obtain ⟨hl, hst, hack, hwake, htask, haddr, hfault, hphase⟩ := h
  have hclear : s.regs.OnlyClears (s.armResync e).regs :=
    body_onlyClears (i := .evtResync .receivedDataReady false e) rfl nofun s
  have hframe : s.regs.EvFrame (s.armResync e).regs := evBody_regs (i := .evtResync .receivedDataReady false e) rfl s
  exact ⟨hl, hst, (Regs.ack_resync _ _).trans hack, hwake, htask, hclear.flag_false haddr,
    hframe.faults.trans hfault, hphase⟩

/-- An enqueue keeps the deadlock: it writes the queue and its record alone (rule R153). -/
theorem State.Deadlocked.enqueue {p : Packet} {s : State} (h : s.Deadlocked p) (q : Packet) :
    (s.enqueue q).Deadlocked p := by
  obtain ⟨_, _, heq⟩ := s.enqueue_eq q
  rwa [heq]

/-- A stop writes no fault flag (rule R180). -/
theorem State.busStop_faults (s : State) : faultByte s.busStop.regs.sr1 = faultByte s.regs.sr1 := by
  obtain ⟨_, _, h⟩ := s.busStop_eq_with
  rw [h]
  exact (faultByte_setFlag _ (i := Sr1.txe) (by decide) _).trans (faultByte_setFlag _ (i := Sr1.stopf) (by decide) _)

/-- A stop keeps the deadlock: it raises no ADDR and no fault flag, and it leaves the phase IDLE (rule R180). -/
theorem State.Deadlocked.busStop {p : Packet} {s : State} (h : s.Deadlocked p) : s.busStop.Deadlocked p := by
  obtain ⟨hl, hst, hack, hwake, htask, haddr, hfault, -⟩ := h
  have haddr' : s.busStop.regs.flag Sr1.addr = false := (busBody_addr (i := .busStop) rfl nofun s).trans haddr
  have hfault' := s.busStop_faults.trans hfault
  obtain ⟨_, _, _, heq⟩ := s.busStop_eq
  rw [heq] at haddr' hfault' ⊢
  exact ⟨hl, hst, hack, hwake, htask, haddr', hfault', nofun⟩

/-- In a live driver an instruction is not taken, raises a fault, or runs its body; a construction does not run there. -/
theorem exec_active {i : Instr} {s t : State} (hl : s.life = .active) (h : exec i s = .next t) :
    t = s ∨ (∃ f, t = s.raise f) ∨ (s.stepEnabled i = true ∧ (∀ c a, i ≠ .tkInit c a) ∧ t = i.body s) := by
  cases i with
  | tkInit =>
    rcases execTkInit_next h with rfl | ⟨-, f, rfl⟩ | ⟨-, hbefore, -⟩
    · exact .inl rfl
    · exact .inr (.inl ⟨f, rfl⟩)
    · exact absurd (hl.symm.trans hbefore) nofun
  | _ =>
    cases exec_effect h with
    | skipped => exact .inl rfl
    | faulted f => exact .inr (.inl ⟨f, rfl⟩)
    | ran _ he => exact .inr (.inr ⟨he, nofun, rfl⟩)

/-- No instruction but a bus fault and a teardown leaves the deadlock. -/
theorem exec_deadlocked {p : Packet} {i : Instr} {s t : State} (h : s.Deadlocked p)
    (hw : i.wellFormed s.cfg.packetLen = true) (hfault : ∀ flags, i ≠ .busFault flags) (hdown : i ≠ .tkTeardown)
    (hx : exec i s = .next t) : t.Deadlocked p := by
  have ⟨hl, _⟩ := h
  rcases exec_active hl hx with rfl | ⟨_, rfl⟩ | ⟨he, hinit, rfl⟩
  · exact h
  · exact h
  · rcases h.stepEnabled_cases he hw with ⟨_, _, e, rfl⟩ | ⟨q, rfl⟩ | rfl | ⟨flags, rfl⟩ | hlife
    · exact h.armResync e
    · exact h.enqueue q
    · exact h.busStop
    · exact absurd rfl (hfault flags)
    · rcases i.lifecycle_cases with ⟨c, a, rfl⟩ | rfl | hnot
      · exact absurd rfl (hinit c a)
      · exact absurd rfl hdown
      · exact absurd (hlife.symm.trans hnot) nofun

/-- A step but a bus fault and a teardown keeps the deadlock, which reads neither the run's inputs nor the marks. -/
theorem step_deadlocked {p : Packet} {s t : State} (hs : s.Deadlocked p) (h : step s = .next t)
    (hfault : ∀ flags, s.nextInstr ≠ some (.busFault flags)) (hdown : s.nextInstr ≠ some .tkTeardown) :
    t.Deadlocked p := by
  rcases step_cases h with ⟨-, rfl⟩ | ⟨-, rfl⟩ | ⟨-, r, rfl⟩ | ⟨-, r, rfl⟩ | ⟨r, i, -, hi, hw, hx⟩
  · exact hs
  · exact hs
  · exact hs
  · exact hs
  · rw [hi] at hfault hdown
    have hr : State.Deadlocked p { s with run := r } := hs
    exact exec_deadlocked hr hw (fun flags heq => hfault flags (congrArg some heq))
      (fun heq => hdown (congrArg some heq)) hx

/-- Settles O59: the step keeps the deadlock, and a delivery would have left `Waiting` instead (rule R159). -/
theorem lostWakeupIsADeadlock : Obligations.LostWakeupIsADeadlock := by
  intro s t p Dead hs h hfault hdown
  have ht : t.Deadlocked p := step_deadlocked hs h hfault hdown
  refine ⟨ht, ?_⟩
  rcases eachReadyPacketIsDeliveredAtMostOnce s t h with hsame | ⟨_, -, -, hwait, -⟩
  · exact hsame
  · obtain ⟨-, hst, -⟩ := ht
    exact absurd (hwait.symm.trans hst) nofun

end Sys2Proof.Machine
end
